-- ==== Sys2Proof/Word.lean ====
section
/-! DEFINITION. The two widths of the frame engine (00_scope R9): a byte or character is 8 bits, a word is 32 bits. -/

namespace Sys2Proof

/-- A byte, and a template character (R9): 8 bits. -/
abbrev Byte := BitVec 8

/-- An element of InputVector or OutputVector (R9): 32 bits. -/
abbrev Word := BitVec 32

end Sys2Proof
end

