-- ==== Sys2Proof/Config.lean ====
section
/-! DEFINITION. The implementation parameters of 00_scope R6. A machine state carries one `Params` value that no
instruction writes (log 1), so a statement about every state is a statement about every value of the parameters. -/

namespace Sys2Proof

/-- INT_W, the "platform int width" of tags `%d` and `%i`: 16 or 32, OPEN (R6, D9). -/
inductive IntWidth where
  | w16
  | w32
  deriving DecidableEq, Repr

/-- The parameters of R6. N_IN is the length of `ivReset` and N_OUT the length of `ovReset`. -/
structure Params where
  /-- IV_RESET: contents of InputVector at reset, any values (D5). -/
  ivReset : List Word
  /-- OV_RESET: contents of OutputVector at reset, any values (D5). -/
  ovReset : List Word
  /-- INTERVAL, in milliseconds. -/
  interval : Nat
  /-- EN_RESET: optional; `none` is "defaults to enabled" (R6, R27). -/
  enReset : Option Bool
  /-- TPL_RESET. -/
  tplReset : List Byte
  /-- TPL_MAX: capacity of the template store, OPEN (D14). -/
  tplMax : Nat
  /-- CLK_W: width of the millisecond clock, OPEN (D8). -/
  clkW : Nat
  /-- INT_W, OPEN (D9). -/
  intW : IntWidth
  /-- LAST_SEND_RESET, OPEN (D4). -/
  lastSendReset : Nat
  /-- RXQ_DEPTH: at least 4, or unbounded (`none`), OPEN (D19). -/
  rxqDepth : Option Nat
  /-- TAG_UL_FIX, the optional parameter of D12 and U14; the spec's own choice is false. -/
  tagUlFix : Bool
  deriving DecidableEq, Repr

/-- N_IN (R6, R7). -/
def Params.nIn (p : Params) : Nat := p.ivReset.length

/-- N_OUT (R6, R7). -/
def Params.nOut (p : Params) : Nat := p.ovReset.length

/-- The parameter values that `State.reset` names (log 2 to log 5). No statement rests on them. DESIGN CHOICE: N_IN,
N_OUT, INTERVAL, TPL_MAX, the empty template, the vectors' contents (not zero: D5), LAST_SEND_RESET. PRESUMED (8-bit
AVR Arduino, 93 G4): CLK_W, INT_W, RXQ_DEPTH. -/
def Params.chosen : Params where
  ivReset := [0xA5A5A5A5, 0x5A5A5A5A]
  ovReset := [0xC3C3C3C3, 0x3C3C3C3C]
  interval := 50
  enReset := none
  tplReset := []
  tplMax := 64
  clkW := 32
  intW := .w16
  lastSendReset := 0
  rxqDepth := some 64
  tagUlFix := false

end Sys2Proof
end

