-- ==== Sys2Proof/Syntax.lean ====
section
/-! DEFINITION. The units of the three streams (30_encoding R80) as one inductive type, one constructor per row of
spec/opcode_table.json, and the forms their encodings take. -/

namespace Sys2Proof

/-- ReceiverState (10_state R24): it decides how the inbound stream is decoded (R82). -/
inductive RState where
  | awaitingStart
  | receivingData
  deriving DecidableEq, Repr

/-- One unit or host operation; each constructor is one row of spec/opcode_table.json. -/
inductive Instr where
  /-- RX.DISCARD (R124). -/
  | rxDiscard (b : Byte)
  /-- RX.START (R125). -/
  | rxStart
  /-- RX.WORD (R126): the four bytes in arrival order. -/
  | rxWord (a b c d : Byte)
  /-- T.LIT (R154). -/
  | tLit (c : Byte)
  /-- T.L, `%l` (R155). -/
  | tL
  /-- T.U, `%u` (R156). -/
  | tU
  /-- T.D, `%d` (R157). -/
  | tD
  /-- T.I, `%i` (R158). -/
  | tI
  /-- T.RSVD, the marker and any other character (R160). -/
  | tRsvd (t : Byte)
  /-- T.TRUNC, the marker as last character (R159). -/
  | tTrunc
  /-- T.EOL, the implicit terminator (R162). -/
  | tEol
  /-- The pseudo-instruction `%ul` (R93, R161). -/
  | ul
  /-- POLL (R191), host code 0. -/
  | poll
  /-- TAKE_UPDATED (R193), host code 1. -/
  | takeUpdated
  /-- SET_ENABLED (R194), host code 2. -/
  | setEnabled (en : Bool)
  /-- SET_TEMPLATE (R195), host code 3. -/
  | setTemplate (str : List Byte)
  /-- IV_READ (R196), host code 4. -/
  | ivRead (idx : Nat)
  /-- OV_WRITE (R197), host code 5. -/
  | ovWrite (idx : Nat) (w : Word)
  /-- OV_READ (R198), host code 6. -/
  | ovRead (idx : Nat)
  /-- H.RSVD, host code 7 (R103). -/
  | hRsvd
  /-- RESET (R250): the reset input with the parameters of construction; `en = none` is the default (enabled). -/
  | reset (tpl : List Byte) (interval : Nat) (en : Option Bool)
  /-- RX_CHECK (R121), the receiver's entry point. -/
  | rxCheck
  /-- TX_SEND (R151), the transmitter's entry point. -/
  | txSend
  deriving DecidableEq, Repr

/-- One command on the host's command port (R103): the 3-bit code and every operand an operation may name. An
operation reads the operands R103 gives it and ignores the others. -/
structure Command where
  code : BitVec 3
  en : Bool
  str : List Byte
  idx : Nat
  w : Word
  deriving DecidableEq, Repr

/-- Why a decoder reads no unit. -/
inductive DecodeError where
  /-- AwaitingStart and no byte is available (R122): the receiver waits. -/
  | emptySource
  /-- ReceivingData and fewer than 4 bytes are available (R123): the receiver waits. -/
  | shortWord
  /-- More bytes than the one unit asked for. -/
  | trailing
  deriving DecidableEq, Repr

/-- Where a unit's bits stand: in the inbound stream under a receiver state, in the template, on the command port, or
on the reset input. -/
inductive Encoding where
  | wire (m : RState) (bytes : List Byte)
  | template (chars : List Byte)
  | command (c : Command)
  | resetInput (tpl : List Byte) (interval : Nat) (en : Option Bool)
  deriving DecidableEq, Repr

end Sys2Proof
end

