-- ==== Sys2Proof/Machine/State.lean ====
section
/-! DEFINITION. The state of the frame engine and its collaborators (10_state R20), the reasons a step can stop, and the
state after reset (R40). -/

namespace Sys2Proof.Machine

/-- A fault: the machine stops. -/
inductive Fault where
  /-- `rx_read()` on an empty byte source (93 U6, 20 R54). Raised by RX.DISCARD, RX.START and RX.WORD when the source
  holds too few bytes, and by a single read of RX.WORD when it holds none, which the block's own rules never let happen. Safe: the spec gives such a read no result. -/
  | emptySource
  deriving DecidableEq, Repr

/-- A refusal: the spec gives the situation no meaning (60 R222). -/
inductive Refusal where
  /-- `exec`'s arm of an instruction that has no meaning yet. Safe. -/
  | notModelled (mnemonic : String)
  /-- T.RSVD (R160, U1): raised by its arm and by TX_SEND meeting one. Safe. -/
  | reservedTag
  /-- H.RSVD, host code 7 (R103, U15). Safe. -/
  | reservedHostCode
  /-- SET_TEMPLATE or RESET with a template that is not well-formed (R100, U1, U2, U3). Safe. -/
  | templateNotWellFormed
  /-- IV_READ with an index outside `[0, N_IN)`, OV_WRITE or OV_READ with one outside `[0, N_OUT)` (U4, D23). Safe. -/
  | indexOutsideVector
  /-- RESET with N_IN = 0 or an interval of more than CLK_W bits (R250, U5). Safe. -/
  | configuration
  /-- RX.WORD, whole or by single reads, with N_IN = 0, where `mod N_IN` has no meaning (R128, D6). Safe. -/
  | emptyInputVector
  deriving DecidableEq, Repr

/-- Where the block stands (MODEL's own; log 7): between operations, or at a point of POLL's pseudocode (R191). -/
inductive Ctl where
  /-- Between host operations. -/
  | idle
  /-- In RX_CHECK, at its loop test (R122, R123). -/
  | receive
  /-- In RX.WORD after the first of its four `rx_read` (R126, R63). -/
  | wordRead1
  /-- In RX.WORD after the second. -/
  | wordRead2
  /-- In RX.WORD after the third. -/
  | wordRead3
  /-- RX_CHECK has returned; the clock reading and the gate come next (R191 (3)). -/
  | gate
  /-- In TX_SEND, at its loop test (R151). -/
  | send
  /-- In TX_SEND after T.TRUNC left the scan loop: T.EOL comes next (R159). -/
  | sendEnd
  /-- TX_SEND has returned: `LAST_SEND <- NOW` comes next (R191). -/
  | latch
  deriving DecidableEq, Repr

/-- What an operation with a result put on the result port (R103, "result out"). -/
inductive HostResult where
  | bit (b : Bool)
  | word (w : Word)
  deriving DecidableEq, Repr

/-- One pending move of the host or the environment (00_scope R13, R14; log 8). -/
inductive Input where
  /-- The serial sender appends a byte (R34). -/
  | append (b : Byte)
  /-- The clock advances by `ms` milliseconds (R36). -/
  | advance (ms : Nat)
  /-- The block is given one step, a whole unit, before the next move (R14). -/
  | run
  /-- The block is given one `rx_read` of RX.WORD before the next move (R14, R63); elsewhere the same as `run`. -/
  | read
  /-- The host issues a command, executed whole in one step (R63). -/
  | command (c : Command)
  /-- The host issues POLL, and the block runs it unit by unit, so that sender and clock can move in between (R14). -/
  | pollByUnits
  /-- The reset input is asserted (R250, D2). -/
  | resetInput
  deriving DecidableEq, Repr

/-- The state: block, transient and environment state of R20, the parameters, and the model's own `ctl`, `result` and
`inputs`. TPL_LEN is the length of `tpl`; N_IN and N_OUT are the lengths of `iv` and `ov`. -/
structure State where
  /-- The implementation parameters (R6), never written. -/
  cfg : Params
  /-- InputVector (R21). -/
  iv : List Word
  /-- OutputVector (R22). -/
  ov : List Word
  /-- ReceiverState (R24). -/
  rstate : RState
  /-- The fill position (R25). -/
  fill : Nat
  /-- UpdatedFlag (R26). -/
  updated : Bool
  /-- The enable bit (R27). -/
  enabled : Bool
  /-- LastSendTimestamp (R30), CLK_W bits. -/
  lastSend : Nat
  /-- The output interval (R31), CLK_W bits. -/
  interval : Nat
  /-- The format template (R32); its length is TPL_LEN. -/
  tpl : List Byte
  /-- The template scan index (R28), transient. -/
  ti : Nat
  /-- The cursor into OutputVector (R29), transient. -/
  cur : Nat
  /-- The integer accumulator (R33), transient. -/
  val : Word
  /-- The clock value sampled by POLL (R33), transient, CLK_W bits. -/
  now : Nat
  /-- The inbound byte source, oldest byte first (R34). -/
  rxq : List Byte
  /-- The outbound log, oldest byte first (R35). -/
  txs : List Byte
  /-- The millisecond clock (R36), CLK_W bits. -/
  clk : Nat
  /-- Where the block stands (MODEL's own). -/
  ctl : Ctl
  /-- The result port (MODEL's own). -/
  result : Option HostResult
  /-- Pending moves of host, sender and clock, next one first (MODEL's own). -/
  inputs : List Input
  deriving DecidableEq, Repr

/-- The state right after reset of an implementation with parameters `p` (R40, R250). The vectors hold the unspecified
IV_RESET and OV_RESET of `p`; RXQ, TXS and CLK, which reset does not touch, are named empty, empty and 0 (log 6). -/
def State.resetWith (p : Params) : State where
  cfg := p
  iv := p.ivReset
  ov := p.ovReset
  rstate := .awaitingStart
  fill := 0
  updated := false
  enabled := p.enReset.getD true
  lastSend := p.lastSendReset
  interval := p.interval
  tpl := p.tplReset
  ti := 0
  cur := 0
  val := 0
  now := 0
  rxq := []
  txs := []
  clk := 0
  ctl := .idle
  result := none
  inputs := []

/-- The state right after reset, with the parameter values the assumption log names. -/
def State.reset : State := State.resetWith Params.chosen

end Sys2Proof.Machine
end

