-- ==== Sys2Proof/Machine/Ops.lean ====
section
/-! DEFINITION. The primitives of 00_scope R11 and the named accesses to the stores, streams and registers; every
meaning goes through them. The block takes no exception (60 R220, R225), so there is no exception entry here. -/

namespace Sys2Proof.Machine

/-- What a step or a meaning answers. -/
abbrev Out := Host.Outcome State Fault Refusal

/-- Sequencing of two primitive steps (R67 (b)): the second runs where the first goes on. -/
def andThen (o : Out) (f : State → Out) : Out :=
  match o with
  | .next s => f s
  | .fault r => .fault r
  | .refused r => .refused r

/-! The inbound byte source (R34, R54). -/

/-- `rx_avail()`. -/
def State.rxAvail (s : State) : Nat := s.rxq.length

/-- `n` calls of `rx_read()`: the `n` oldest bytes leave the source. -/
def State.rxDrop (s : State) (n : Nat) : State := { s with rxq := s.rxq.drop n }

/-- The source holds RXQ_DEPTH bytes (R6). -/
def State.rxFull (s : State) : Bool :=
  match s.cfg.rxqDepth with
  | none => false
  | some n => decide (n ≤ s.rxq.length)

/-- The serial sender appends a byte; a byte that finds the source full is lost (D19, U8: the modeller's choice, log 10). -/
def State.rxAppend (s : State) (b : Byte) : State :=
  if s.rxFull then s else { s with rxq := s.rxq ++ [b] }

/-! The outbound byte sink (R35, R55): always succeeds (D18). -/

/-- `tx_write` of each byte in order. -/
def State.txWrite (s : State) (bytes : List Byte) : State := { s with txs := s.txs ++ bytes }

/-! The clock (R36, R56). -/

/-- The environment advances CLK modulo `2^CLK_W`. -/
def State.clkAdvance (s : State) (ms : Nat) : State := { s with clk := (s.clk + ms) % 2 ^ s.cfg.clkW }

/-- `NOW <- clk_now()`. -/
def State.sampleClock (s : State) : State := { s with now := s.clk }

/-- `LAST_SEND <- NOW`. -/
def State.latchLastSend (s : State) : State := { s with lastSend := s.now }

/-! The vectors (R51, R52). -/

/-- N_IN: the length of InputVector (R6). -/
def State.nIn (s : State) : Nat := s.iv.length

/-- N_OUT: the length of OutputVector (R6). -/
def State.nOut (s : State) : Nat := s.ov.length

/-- `OV[i] <- w` (R197). -/
def State.ovStore (s : State) (i : Nat) (w : Word) : State := { s with ov := s.ov.set i w }

/-- An element of a vector, for the host's read at an index inside it (R196, R198). -/
def elementAt (v : List Word) (i : Nat) : Option Word := v[i]?

/-! Sequencing and the result port. -/

def State.setCtl (s : State) (c : Ctl) : State := { s with ctl := c }

def State.setRState (s : State) (m : RState) : State := { s with rstate := m }

def State.setResult (s : State) (r : HostResult) : State := { s with result := some r }

def State.setInputs (s : State) (l : List Input) : State := { s with inputs := l }

/-- Return from a sub-operation to the place that called it. -/
def returnTo (c : Ctl) (o : Out) : Out := andThen o fun t => .next (t.setCtl c)

/-- `TI <- 0 ; CUR <- 0`, the start of every TX_SEND (R151). -/
def State.scanStart (s : State) : State := { s with ti := 0, cur := 0 }

/-- `TI <- TI + n`. -/
def State.tiAdvance (s : State) (n : Nat) : State := { s with ti := s.ti + n }

end Sys2Proof.Machine
end

