-- ==== Sys2Proof/Machine/Flags.lean ====
section
/-! DEFINITION. The two conditions the block computes: completion of a frame, which sets UPDATED (R128, R129), and the
interval gate (R192). -/

namespace Sys2Proof.Machine

/-- R128: `(FILL + 1) mod N_IN`. -/
def nextFill (nIn fill : Nat) : Nat := (fill + 1) % nIn

/-- RX.WORD's effect on the block (R126): store, advance, and on the wrap of FILL set UPDATED, return to AwaitingStart
and leave RX_CHECK (R129). -/
def State.storeWord (s : State) (v : Word) : State :=
  let s1 := { s with val := v, iv := s.iv.set s.fill v, fill := nextFill s.iv.length s.fill }
  if s1.fill = 0 then { s1 with updated := true, rstate := .awaitingStart, ctl := .gate } else s1

/-- R193: return UPDATED and clear it. -/
def State.takeFlag (s : State) : State :=
  { s with updated := false, result := some (.bit s.updated) }

/-- R192: `(now - last) mod 2^w`. -/
def elapsed (w now last : Nat) : Nat := (now + (2 ^ w - last % 2 ^ w)) % 2 ^ w

/-- R191 (3): the gate is open for the sampled clock value, unsigned `>=`. -/
def State.gateOpen (s : State) : Bool := decide (s.interval ≤ elapsed s.cfg.clkW s.now s.lastSend)

end Sys2Proof.Machine
end

