-- ==== Sys2Proof/Decode.lean ====
section
/-! DEFINITION. The decoders of the three streams (30_encoding R82, R90, R103), the template scan of R100, and after
them the encoder. -/

namespace Sys2Proof

/-! Character codes (00_scope R8): `'<'` is the source's, the others are ASCII (D11, log 15). -/

/-- `'<'` = 60, the start marker. -/
def startMarker : Byte := 0x3C
/-- `'%'`, the escape marker. -/
def escMarker : Byte := 0x25
/-- `'l'`. -/
def charL : Byte := 0x6C
/-- `'u'`. -/
def charU : Byte := 0x75
/-- `'d'`. -/
def charD : Byte := 0x64
/-- `'i'`. -/
def charI : Byte := 0x69
/-- `'-'`. -/
def charMinus : Byte := 0x2D
/-- `'0'`. -/
def charZero : Byte := 0x30
/-- `\n`, the line terminator. -/
def charNewline : Byte := 0x0A

/-- R82: the next wire unit and what stays behind it. `RSTATE` alone chooses the format; every byte value is legal in
RXB and every four-byte value in RXW. -/
def decodeWire (m : RState) (q : List Byte) : Except DecodeError (Instr × List Byte) :=
  match m, q with
  | .awaitingStart, [] => .error .emptySource
  | .awaitingStart, b :: rest => .ok (if b = startMarker then .rxStart else .rxDiscard b, rest)
  | .receivingData, a :: b :: c :: d :: rest => .ok (.rxWord a b c d, rest)
  | .receivingData, _ => .error .shortWord

/-- R89, R90 (4): the unit of the marker followed by `t`. -/
def decodeTag (t : Byte) : Instr :=
  if t = charL then .tL
  else if t = charU then .tU
  else if t = charD then .tD
  else if t = charI then .tI
  else .tRsvd t

/-- R90: the next template unit of the characters from the scan index on, and what stays behind it. With `fix`
(TAG_UL_FIX, D12; the spec's choice is false) `%ul` is one unit; without it `%ul` is T.U and the `l` stays (R93). -/
def decodeTemplate (fix : Bool) (q : List Byte) : Instr × List Byte :=
  match q with
  | [] => (.tEol, [])
  | c :: rest =>
    if c ≠ escMarker then (.tLit c, rest)
    else match rest with
      | [] => (.tTrunc, [])
      | t :: rest' =>
        if fix = true ∧ t = charU ∧ rest'.head? = some charL then (.ul, rest'.tail)
        else (decodeTag t, rest')

/-- R103: the operation of a command; code 7 is the reserved one. -/
def decodeCommand (c : Command) : Instr :=
  match c.code.toNat with
  | 0 => .poll
  | 1 => .takeUpdated
  | 2 => .setEnabled c.en
  | 3 => .setTemplate c.str
  | 4 => .ivRead c.idx
  | 5 => .ovWrite c.idx c.w
  | 6 => .ovRead c.idx
  | _ => .hRsvd

/-- The whole decoder: one unit and nothing behind it, or the reason there is none. -/
def decode (fix : Bool) : Encoding → Except DecodeError Instr
  | .wire m q =>
    match decodeWire m q with
    | .ok (i, []) => .ok i
    | .ok (_, _ :: _) => .error .trailing
    | .error e => .error e
  | .template q =>
    match decodeTemplate fix q with
    | (i, []) => .ok i
    | (_, _ :: _) => .error .trailing
  | .command c => .ok (decodeCommand c)
  | .resetInput tpl interval en => .ok (.reset tpl interval en)

/-- R87, R92: the four tag characters. -/
def isTagChar (t : Byte) : Bool := t = charL || t = charU || t = charD || t = charI

/-- R100 (c): scanning the characters from the first on by R90 yields no T.RSVD. -/
def scanOk : List Byte → Bool
  | [] => true
  | [_] => true
  | c :: t :: rest => if c = escMarker then isTagChar t && scanOk rest else scanOk (t :: rest)

/-- R100: a well-formed template for a store of `tplMax` characters. -/
def templateOk (tplMax : Nat) (str : List Byte) : Bool :=
  decide (str.length ≤ tplMax) && !str.contains 0x00 && scanOk str

/-- The command with a code and no operands. -/
def plainCommand (code : BitVec 3) : Command := { code := code, en := false, str := [], idx := 0, w := 0 }

/-- The encoder: the bits of an instruction in its stream (R82, R88, R89, R103). RX_CHECK and TX_SEND have no encoding
(R103: they are entered only from POLL). -/
def encode : Instr → Option Encoding
  | .rxDiscard b => some (.wire .awaitingStart [b])
  | .rxStart => some (.wire .awaitingStart [startMarker])
  | .rxWord a b c d => some (.wire .receivingData [a, b, c, d])
  | .tLit c => some (.template [c])
  | .tL => some (.template [escMarker, charL])
  | .tU => some (.template [escMarker, charU])
  | .tD => some (.template [escMarker, charD])
  | .tI => some (.template [escMarker, charI])
  | .tRsvd t => some (.template [escMarker, t])
  | .tTrunc => some (.template [escMarker])
  | .tEol => some (.template [])
  | .ul => some (.template [escMarker, charU, charL])
  | .poll => some (.command (plainCommand 0))
  | .takeUpdated => some (.command (plainCommand 1))
  | .setEnabled en => some (.command { plainCommand 2 with en := en })
  | .setTemplate str => some (.command { plainCommand 3 with str := str })
  | .ivRead idx => some (.command { plainCommand 4 with idx := idx })
  | .ovWrite idx w => some (.command { plainCommand 5 with idx := idx, w := w })
  | .ovRead idx => some (.command { plainCommand 6 with idx := idx })
  | .hRsvd => some (.command (plainCommand 7))
  | .reset tpl interval en => some (.resetInput tpl interval en)
  | .rxCheck => none
  | .txSend => none

/-- The `n` bytes of a number, most significant first: the order in which a unit's bytes stand in its stream, since the
table writes a unit as one number with its first byte on the left (R82, R89). -/
def bytesOfNumber : Nat → Nat → List Byte
  | 0, _ => []
  | n + 1, w => BitVec.ofNat 8 (w / 256 ^ n) :: bytesOfNumber n w

/-- The stream in which a table word of `nbits` bits is laid out (log 25): the table's rows of different streams share
their bit patterns, and a word alone does not say which stream it is meant for. An 8-bit word is given to the row that
fixes most of its bits: `0x3C` is RX.START, `0x25` is T.TRUNC; any other 8-bit word is the first row without fixed bits,
RX.DISCARD. A 24-bit word other than `%ul` is RX.WORD with its first byte 0, since the table's row for RX.WORD gives
bits to the bytes b and c only. -/
def tableEncoding (nbits w : Nat) : Option Encoding :=
  match nbits with
  | 0 => some (.template [])
  | 3 => some (.command (plainCommand (BitVec.ofNat 3 w)))
  | 8 => if BitVec.ofNat 8 w = escMarker then some (.template [escMarker])
         else some (.wire .awaitingStart (bytesOfNumber 1 w))
  | 16 => some (.template (bytesOfNumber 2 w))
  | 24 => if w = 0x25756C then some (.template (bytesOfNumber 3 w))
          else some (.wire .receivingData (bytesOfNumber 4 w))
  | 32 => some (.wire .receivingData (bytesOfNumber 4 w))
  | _ => none

/-- The first unit that the decoder reads from an encoding, without TAG_UL_FIX (the spec's choice, D12). -/
def firstUnit : Encoding → Option Instr
  | .wire m q => match decodeWire m q with
    | .ok (i, _) => some i
    | .error _ => none
  | .template q => some (decodeTemplate false q).1
  | .command c => some (decodeCommand c)
  | .resetInput tpl interval en => some (.reset tpl interval en)

/-- What the decoder reads from a table word. The word `%ul` (24 bits) gives T.U, as R93 says. -/
def decodeTableWord (nbits w : Nat) : Option Instr :=
  (tableEncoding nbits w).bind firstUnit

end Sys2Proof
end

