-- ==== Sys2Proof/Machine/Operands.lean ====
section
/-! DEFINITION. Operand forms: assembling an inbound integer (R83, R127), the conversions and decimal text of outbound
numbers (R152, R163), and the bounded fetch of the next OutputVector element (R153). -/

namespace Sys2Proof.Machine

/-- One assembly step of R83: `VAL <- trunc_32((VAL << 8) | zext_32(x))`. -/
def shiftIn (v : Word) (x : Byte) : Word := (v <<< 8) ||| x.zeroExtend 32

/-- R83: four bytes in arrival order, starting from zero. -/
def assemble (a b c d : Byte) : Word := shiftIn (shiftIn (shiftIn (shiftIn 0 a) b) c) d

/-- `VAL <- 0`, the start of every RX.WORD (R126). -/
def State.clearVal (s : State) : State := { s with val := 0 }

/-- One `rx_read` of RX.WORD and its assembly step (R83): the oldest byte leaves the source and is shifted into VAL. -/
def State.shiftByte (s : State) (x : Byte) : State := { s with val := shiftIn s.val x, rxq := s.rxq.drop 1 }

/-- The character of a decimal digit (R91, R152). -/
def digitChar (n : Nat) : Byte := charZero + BitVec.ofNat 8 n

/-- Decimal digits of a natural number, most significant first; `fuel` bounds the number of further digits. -/
def decDigits : Nat → Nat → List Byte
  | 0, n => [digitChar (n % 10)]
  | fuel + 1, n => if n < 10 then [digitChar n] else decDigits fuel (n / 10) ++ [digitChar (n % 10)]

/-- `dec` of a natural number (R152). A number has no more digits than its value, so the fuel suffices. -/
def decNat (n : Nat) : List Byte := decDigits n n

/-- `dec(n)` for an integer (R152): minus sign first. -/
def dec (n : Int) : List Byte :=
  if n < 0 then charMinus :: decNat n.natAbs else decNat n.natAbs

/-- `conv_l(w) = s_32(w)` (R163). -/
def convL (w : Word) : Int := w.toInt

/-- `conv_u(w) = u(w)` (R163). -/
def convU (w : Word) : Int := (w.toNat : Int)

/-- `conv_d(w) = s_INT_W(trunc_INT_W(w))` (R163, D9). -/
def convD (k : IntWidth) (w : Word) : Int :=
  match k with
  | .w16 => (w.setWidth 16).toInt
  | .w32 => w.toInt

/-- RENDER(conv), R153: the next element of OutputVector in decimal, or the character `'0'` with CUR unchanged when the
cursor has exhausted the vector. -/
def State.render (s : State) (conv : Word → Int) : State :=
  match s.ov[s.cur]? with
  | some w => { s with cur := s.cur + 1, txs := s.txs ++ dec (conv w) }
  | none => s.txWrite [charZero]

end Sys2Proof.Machine
end

