-- ==== Sys2Proof/Machine/Receiver.lean ====
section
/-! DEFINITION. The wire units and the sub-operation RX_CHECK (40_receiver). -/

namespace Sys2Proof.Machine

/-- RX.DISCARD (R124): the byte leaves the source, nothing is written. -/
def execRxDiscard (_b : Byte) (s : State) : Out :=
  if s.rxAvail < 1 then .fault .emptySource else .next (s.rxDrop 1)

/-- RX.START (R125): consume the marker, `RSTATE <- ReceivingData`, return from RX_CHECK. -/
def execRxStart (s : State) : Out :=
  if s.rxAvail < 1 then .fault .emptySource
  else .next (((s.rxDrop 1).setRState .receivingData).setCtl .gate)

/-- RX.WORD (R126): consume four bytes, store the assembled word at FILL, advance FILL; on the wrap the vector is
complete. N_IN = 0 is excluded (R128). -/
def execRxWord (a b c d : Byte) (s : State) : Out :=
  if s.rxAvail < 4 then .fault .emptySource
  else if s.nIn = 0 then .refused .emptyInputVector
  else .next ((s.rxDrop 4).storeWord (assemble a b c d))

/-- One `rx_read` of RX.WORD, after which the block stands at `c` (R63, R126). -/
def readInto (c : Ctl) (s : State) : Out :=
  match s.rxq with
  | [] => .fault .emptySource
  | x :: _ => .next ((s.shiftByte x).setCtl c)

/-- RX.WORD by single reads (R14, R63, R126): the next of its four `rx_read`; the fourth stores the word and the block is
back at the loop test, or leaves RX_CHECK where the vector is complete. -/
def wordRead (s : State) : Out :=
  match s.ctl with
  | .wordRead1 => readInto .wordRead2 s
  | .wordRead2 => readInto .wordRead3 s
  | .wordRead3 =>
    if s.nIn = 0 then .refused .emptyInputVector
    else andThen (readInto .receive s) fun t => .next (t.storeWord t.val)
  | .idle | .receive | .gate | .send | .sendEnd | .latch =>
    if s.nIn = 0 then .refused .emptyInputVector else readInto .wordRead1 s.clearVal

/-- AWAIT_LOOP (R122). The number bounds the loop tests; as many as there are bytes suffice (R276). -/
def awaitLoop : Nat → State → Out
  | 0, s => .next s
  | n + 1, s =>
    match s.rxq with
    | [] => .next s
    | b :: _ =>
      if b = startMarker then execRxStart s
      else andThen (execRxDiscard b s) fun t => awaitLoop n t

/-- DATA_LOOP (R123). -/
def dataLoop : Nat → State → Out
  | 0, s => .next s
  | n + 1, s =>
    match s.rxq with
    | a :: b :: c :: d :: _ =>
      andThen (execRxWord a b c d s) fun t => if t.fill = 0 then .next t else dataLoop n t
    | _ => .next s

/-- RX_CHECK (R121), the shared operation: RSTATE is read once, on entry, and one loop runs. -/
def rxCheckOp (s : State) : Out :=
  returnTo s.ctl
    (match s.rstate with
     | .awaitingStart => awaitLoop s.rxq.length s
     | .receivingData => dataLoop s.rxq.length s)

/-- RX_CHECK as an entry point of its own (R103: exposed for testing). -/
def execRxCheck (s : State) : Out := rxCheckOp s

end Sys2Proof.Machine
end

