-- ==== Sys2Proof/Machine/Transmitter.lean ====
section
/-! DEFINITION. The template units and the sub-operation TX_SEND (41_transmitter). -/

namespace Sys2Proof.Machine

/-- T.LIT (R154). -/
def execTLit (c : Byte) (s : State) : Out := .next ((s.txWrite [c]).tiAdvance 1)

/-- T.L (R155). -/
def execTL (s : State) : Out := .next ((s.tiAdvance 2).render convL)

/-- T.U (R156). -/
def execTU (s : State) : Out := .next ((s.tiAdvance 2).render convU)

/-- T.D (R157). -/
def execTD (s : State) : Out := .next ((s.tiAdvance 2).render (convD s.cfg.intW))

/-- T.I (R158). -/
def execTI (s : State) : Out := .next ((s.tiAdvance 2).render (convD s.cfg.intW))

/-- T.RSVD (R160): the source gives it no meaning; refused (D13, U1). -/
def execTRsvd (_t : Byte) (_s : State) : Out := .refused .reservedTag

/-- T.TRUNC (R159): leave the scan loop; nothing is written for the marker and T.EOL follows. -/
def execTTrunc (s : State) : Out := .next (s.setCtl .sendEnd)

/-- T.EOL (R162): the newline, `CUR <- 0`, return from TX_SEND. -/
def execTEol (s : State) : Out := .next ({ s.txWrite [charNewline] with cur := 0 }.setCtl .latch)

/-- `%ul`: T.U then the literal `l` (R161); with TAG_UL_FIX one unit rendering `conv_u` (D12). -/
def execUl (s : State) : Out :=
  if s.cfg.tagUlFix then .next ((s.tiAdvance 3).render convU)
  else andThen (execTU s) fun t => execTLit charL t

/-- The scan loop of TX_SEND (R151). The number bounds the loop tests; as many as there are characters suffice. -/
def scanLoop : Nat → State → Out
  | 0, s => .next s
  | n + 1, s =>
    match s.tpl[s.ti]? with
    | none => .next s
    | some c =>
      if c ≠ escMarker then andThen (execTLit c s) fun t => scanLoop n t
      else match s.tpl[s.ti + 1]? with
        | none => execTTrunc s
        | some t =>
          if t = charL then andThen (execTL s) fun u => scanLoop n u
          else if t = charU then
            if s.cfg.tagUlFix = true ∧ s.tpl[s.ti + 2]? = some charL then
              andThen (execUl s) fun u => scanLoop n u
            else andThen (execTU s) fun u => scanLoop n u
          else if t = charD then andThen (execTD s) fun u => scanLoop n u
          else if t = charI then andThen (execTI s) fun u => scanLoop n u
          else execTRsvd t s

/-- TX_SEND (R151), the shared operation. -/
def txSendOp (s : State) : Out :=
  returnTo s.ctl (andThen (scanLoop s.tpl.length s.scanStart) fun t => execTEol t)

/-- TX_SEND as an entry point of its own (R103: exposed for testing). -/
def execTxSend (s : State) : Out := txSendOp s

end Sys2Proof.Machine
end

