-- ==== Sys2Proof/Machine/Connector.lean ====
section
/-! DEFINITION. The host operations (42_connector) and RESET (70 R250). Only POLL is gated by ENABLED (D17). -/

namespace Sys2Proof.Machine

/-- POLL (R191): nothing when disabled; else RX_CHECK, one clock reading, the gate, and when it is open TX_SEND and
`LAST_SEND <- NOW`. -/
def execPoll (s : State) : Out :=
  if s.enabled = false then .next s
  else andThen (rxCheckOp s) fun r =>
    let t := r.sampleClock
    if t.gateOpen then andThen (txSendOp t) fun u => .next u.latchLastSend
    else .next t

/-- TAKE_UPDATED (R193). -/
def execTakeUpdated (s : State) : Out := .next s.takeFlag

/-- SET_ENABLED (R194). -/
def execSetEnabled (en : Bool) (s : State) : Out := .next { s with enabled := en }

/-- SET_TEMPLATE (R195): the whole store is replaced; a template that is not well-formed is refused (R100). -/
def execSetTemplate (str : List Byte) (s : State) : Out :=
  if templateOk s.cfg.tplMax str then .next { s with tpl := str } else .refused .templateNotWellFormed

/-- IV_READ (R196). -/
def execIvRead (idx : Nat) (s : State) : Out :=
  match elementAt s.iv idx with
  | some w => .next (s.setResult (.word w))
  | none => .refused .indexOutsideVector

/-- OV_WRITE (R197). -/
def execOvWrite (idx : Nat) (w : Word) (s : State) : Out :=
  if idx < s.nOut then .next (s.ovStore idx w) else .refused .indexOutsideVector

/-- OV_READ (R198). -/
def execOvRead (idx : Nat) (s : State) : Out :=
  match elementAt s.ov idx with
  | some w => .next (s.setResult (.word w))
  | none => .refused .indexOutsideVector

/-- H.RSVD, host code 7 (R103): refused (U15). -/
def execHRsvd (_s : State) : Out := .refused .reservedHostCode

/-- RESET (R250): the block state takes the values of R40; IV, OV, RXQ, TXS and CLK are not written, and the block
stands between operations. A configuration the spec excludes is refused. -/
def execReset (tpl : List Byte) (interval : Nat) (en : Option Bool) (s : State) : Out :=
  if s.nIn = 0 ∨ 2 ^ s.cfg.clkW ≤ interval then .refused .configuration
  else if templateOk s.cfg.tplMax tpl then
    .next { s with
      rstate := .awaitingStart, fill := 0, updated := false, enabled := en.getD true
      interval := interval, lastSend := s.cfg.lastSendReset, tpl := tpl, ctl := .idle }
  else .refused .templateNotWellFormed

end Sys2Proof.Machine
end

