-- ==== Sys2Proof/Machine/Dispatch.lean ====
section
/-! DEFINITION. `exec`: one arm per constructor of Instr. -/

namespace Sys2Proof.Machine

def exec (i : Instr) (s : State) : Host.Outcome State Fault Refusal :=
  match i with
  | .rxDiscard b => Sys2Proof.Machine.execRxDiscard b s
  | .rxStart => Sys2Proof.Machine.execRxStart s
  | .rxWord a b c d => Sys2Proof.Machine.execRxWord a b c d s
  | .tLit c => Sys2Proof.Machine.execTLit c s
  | .tL => Sys2Proof.Machine.execTL s
  | .tU => Sys2Proof.Machine.execTU s
  | .tD => Sys2Proof.Machine.execTD s
  | .tI => Sys2Proof.Machine.execTI s
  | .tRsvd t => Sys2Proof.Machine.execTRsvd t s
  | .tTrunc => Sys2Proof.Machine.execTTrunc s
  | .tEol => Sys2Proof.Machine.execTEol s
  | .ul => Sys2Proof.Machine.execUl s
  | .poll => Sys2Proof.Machine.execPoll s
  | .takeUpdated => Sys2Proof.Machine.execTakeUpdated s
  | .setEnabled en => Sys2Proof.Machine.execSetEnabled en s
  | .setTemplate str => Sys2Proof.Machine.execSetTemplate str s
  | .ivRead idx => Sys2Proof.Machine.execIvRead idx s
  | .ovWrite idx w => Sys2Proof.Machine.execOvWrite idx w s
  | .ovRead idx => Sys2Proof.Machine.execOvRead idx s
  | .hRsvd => Sys2Proof.Machine.execHRsvd s
  | .reset tpl interval en => Sys2Proof.Machine.execReset tpl interval en s
  | .rxCheck => Sys2Proof.Machine.execRxCheck s
  | .txSend => Sys2Proof.Machine.execTxSend s

end Sys2Proof.Machine
end

