-- ==== Sys2Proof/Machine/Sequencer.lean ====
section
/-! DEFINITION. What the machine does next: it takes the next pending move of host, sender or clock (00_scope R13, R14),
or fetches the unit at the place where the block stands (R82, R90). -/

namespace Sys2Proof.Machine

/-- The next thing to happen: an instruction to execute in a state, one `rx_read` of RX.WORD, or a state already reached
(a move of the environment, or a control step of POLL's own pseudocode between two units). -/
inductive Move where
  | run (i : Instr) (s : State)
  /-- The next single read of RX.WORD. -/
  | read (s : State)
  | done (s : State)
  deriving DecidableEq, Repr

/-- R191 (3) by units: read the clock; when the gate is open TX_SEND begins, else POLL ends. -/
def State.gateStep (s : State) : State :=
  let t := s.sampleClock
  if t.gateOpen then t.scanStart.setCtl .send else t.setCtl .idle

/-- POLL by units begins (R191 (1), (2)): nothing when disabled, else RX_CHECK is entered. -/
def State.pollBegin (s : State) : State := if s.enabled then s.setCtl .receive else s

/-- The block's next primitive step. Between operations it does nothing (70 R252: what it does is what the next host
operation asks). -/
def State.blockMove (s : State) : Move :=
  match s.ctl with
  | .idle => .done s
  | .receive =>
    match decodeWire s.rstate s.rxq with
    | .ok (i, _) => .run i s
    | .error _ => .done (s.setCtl .gate)
  | .wordRead1 => .read s
  | .wordRead2 => .read s
  | .wordRead3 => .read s
  | .gate => .done s.gateStep
  | .send => .run (decodeTemplate s.cfg.tagUlFix (s.tpl.drop s.ti)).1 s
  | .sendEnd => .run .tEol s
  | .latch => .done (s.latchLastSend.setCtl .idle)

/-- The block's next step when it is to be one `rx_read`: where DATA_LOOP's test (R123) finds a whole word, the first read
of RX.WORD; anywhere else the block's next step. -/
def State.readMove (s : State) : Move :=
  if s.ctl = .receive ∧ s.rstate = .receivingData ∧ 4 ≤ s.rxAvail then .read s else s.blockMove

/-- The instruction of the reset input: construction again with the same parameters (D2). -/
def resetInstr (p : Params) : Instr := .reset p.tplReset p.interval p.enReset

/-- The machine's next move. Sender and clock move at once; a host operation waits while another is in progress (R13),
and meanwhile the block goes on with that one. -/
def State.nextMove (s : State) : Move :=
  match s.inputs with
  | [] => s.blockMove
  | .append b :: rest => .done ((s.setInputs rest).rxAppend b)
  | .advance ms :: rest => .done ((s.setInputs rest).clkAdvance ms)
  | .run :: rest => (s.setInputs rest).blockMove
  | .read :: rest => (s.setInputs rest).readMove
  | .command c :: rest =>
    if s.ctl = .idle then .run (decodeCommand c) (s.setInputs rest) else s.blockMove
  | .pollByUnits :: rest => if s.ctl = .idle then .done (s.setInputs rest).pollBegin else s.blockMove
  | .resetInput :: rest =>
    if s.ctl = .idle then .run (resetInstr s.cfg) (s.setInputs rest) else s.blockMove

/-- Place an encoded unit where the next step fetches it: at the head of the byte source inside RX_CHECK, as the
template at the start of TX_SEND, or on the command port between operations. -/
def State.place (s : State) (e : Encoding) : State :=
  match e with
  | .wire m bytes => { s with rstate := m, rxq := bytes, ctl := .receive, inputs := [] }
  | .template chars => { s with tpl := chars, ti := 0, ctl := .send, inputs := [] }
  | .command c => { s with ctl := .idle, inputs := [.command c] }
  | .resetInput _ _ _ => { s with ctl := .idle, inputs := [.resetInput] }

end Sys2Proof.Machine
end

