-- ==== Sys2Proof/Machine/Step.lean ====
section
/-! DEFINITION. The step function, and where a table word is placed so that the next step fetches it. -/

namespace Sys2Proof.Machine

/-- One step of the machine: its next move, executed. -/
def step (s : State) : Host.Outcome State Fault Refusal :=
  match s.nextMove with
  | .run i t => exec i t
  | .read t => wordRead t
  | .done t => .next t

/-- `s` with the table word placed where the next step fetches its instruction (log 26). -/
def State.withFetchWord (s : State) (nbits w : Nat) : State :=
  match tableEncoding nbits w with
  | some e => s.place e
  | none => s

end Sys2Proof.Machine
end

