-- ==== Sys2Proof/WellFormed.lean ====
section
/-! DEFINITION. Which instructions are well-formed as syntax, and which parameter values 00_scope R6 admits. -/

namespace Sys2Proof

/-- The constraints of R6 on the parameters (D6, D19, R250). -/
def Params.ok (p : Params) : Bool :=
  decide (1 ≤ p.nIn) && decide (1 ≤ p.clkW) && decide (p.interval < 2 ^ p.clkW)
    && decide (p.lastSendReset < 2 ^ p.clkW) && templateOk p.tplMax p.tplReset
    && (match p.rxqDepth with
        | none => true
        | some n => decide (4 ≤ n))

/-- Well-formed instructions of an implementation with parameters `p`: each unit carries only the operand values its
table row admits (R82, R88, R89, R92, R94), a template operand is a well-formed template (R100), RESET carries a
configuration R250 admits, and `%ul` is a unit only with TAG_UL_FIX (R93, D12). The index of a vector access is checked
by the access itself (R196 to R198). -/
def Instr.wf (p : Params) : Instr → Bool
  | .rxDiscard b => decide (b ≠ startMarker)
  | .rxStart => true
  | .rxWord _ _ _ _ => true
  | .tLit c => decide (c ≠ escMarker) && decide (c ≠ 0x00)
  | .tL => true
  | .tU => true
  | .tD => true
  | .tI => true
  | .tRsvd t => !isTagChar t
  | .tTrunc => true
  | .tEol => true
  | .ul => p.tagUlFix
  | .poll => true
  | .takeUpdated => true
  | .setEnabled _ => true
  | .setTemplate str => templateOk p.tplMax str
  | .ivRead _ => true
  | .ovWrite _ _ => true
  | .ovRead _ => true
  | .hRsvd => true
  | .reset tpl interval _ => templateOk p.tplMax tpl && decide (interval < 2 ^ p.clkW) && decide (1 ≤ p.nIn)
  | .rxCheck => true
  | .txSend => true

end Sys2Proof
end

