-- ==== Sys2Proof/Safety.lean ====
section
/-! DEFINITION. The terms claims are stated in: what holds of every reachable state, what a frame and a rendered line
are, and how sub-operations are iterated. -/

namespace Sys2Proof.Machine

/-- The `rx_read` that RX.WORD has still to make at a place (R126). -/
def readsLeft : Ctl → Nat
  | .wordRead1 => 3
  | .wordRead2 => 2
  | .wordRead3 => 1
  | .idle => 0
  | .receive => 0
  | .gate => 0
  | .send => 0
  | .sendEnd => 0
  | .latch => 0

/-- The spec's invariants: R37 for the receiver, R21 and R22 for the vectors' lengths, R100 for the stored template, the
CLK_W-bit ranges of R30, R31, R33 and R36, the ranges of TI and CUR of R28 and R29 (TI only means something during the
scan), the capacity of the byte source (R6), an admitted configuration (R6), and inside RX.WORD that the receiver is in
ReceivingData and the source holds the bytes still to be read (R123, R54). -/
abbrev State.Inv (s : State) : Prop :=
  s.cfg.ok = true
    ∧ s.iv.length = s.cfg.nIn
    ∧ s.ov.length = s.cfg.nOut
    ∧ s.fill < s.iv.length
    ∧ (s.rstate = .awaitingStart → s.fill = 0)
    ∧ templateOk s.cfg.tplMax s.tpl = true
    ∧ s.lastSend < 2 ^ s.cfg.clkW
    ∧ s.interval < 2 ^ s.cfg.clkW
    ∧ s.now < 2 ^ s.cfg.clkW
    ∧ s.clk < 2 ^ s.cfg.clkW
    ∧ s.cur ≤ s.ov.length
    ∧ (s.ctl = .send → s.ti ≤ s.tpl.length)
    ∧ (∀ n ∈ s.cfg.rxqDepth, s.rxq.length ≤ n)
    ∧ readsLeft s.ctl ≤ s.rxq.length
    ∧ (0 < readsLeft s.ctl → s.rstate = .receivingData)

/-- The state an outcome goes on in. -/
def nextOf (o : Out) : Option State :=
  match o with
  | .next s => some s
  | .fault _ => none
  | .refused _ => none

/-- The transient state set to fixed values: what is left is what the spec lets anyone observe between operations (R20). -/
def State.forgetTransient (s : State) : State := { s with ti := 0, cur := 0, val := 0, now := 0 }

/-- An outcome with the transient state forgotten. -/
def forgetIn (o : Out) : Out := andThen o fun t => .next t.forgetTransient

/-- `be32(w)` (R101). -/
def be32 (w : Word) : List Byte :=
  [w.extractLsb' 24 8, w.extractLsb' 16 8, w.extractLsb' 8 8, w.extractLsb' 0 8]

/-- `frame(V)` (R101). -/
def frame (v : List Word) : List Byte := startMarker :: v.flatMap be32

/-- The word whose bytes stand at the head of a stream, most significant first (R57); zeros beyond its end. -/
def headWord (q : List Byte) : Word :=
  (q.getD 0 0 ++ q.getD 1 0 ++ q.getD 2 0 ++ q.getD 3 0 : BitVec (8 + 8 + 8 + 8))

/-- What a tag with conversion `conv` contributes to the line when `ov` are the elements not yet rendered (R153). -/
def fieldText (conv : Word → Int) (ov : List Word) : List Byte :=
  match ov with
  | [] => [charZero]
  | w :: _ => dec (conv w)

/-- The conversion of a tag character (R89, R163). -/
def tagConv (k : IntWidth) (t : Byte) : Word → Int :=
  if t = charL then convL else if t = charU then convU else convD k

/-- The line a well-formed template renders (R86): a recursion on the template, written without scan index or cursor. -/
def renderLine (fix : Bool) (k : IntWidth) : List Byte → List Word → List Byte
  | [], _ => [charNewline]
  | [c], _ => if c = escMarker then [charNewline] else [c, charNewline]
  | [c, t], ov =>
    if c = escMarker then fieldText (tagConv k t) ov ++ [charNewline] else c :: renderLine fix k [t] ov
  | c :: t :: l :: rest, ov =>
    if c = escMarker then
      if fix = true ∧ t = charU ∧ l = charL then fieldText convU ov ++ renderLine fix k rest ov.tail
      else fieldText (tagConv k t) ov ++ renderLine fix k (l :: rest) ov.tail
    else c :: renderLine fix k (t :: l :: rest) ov

/-- The line TX_SEND sends in a state. -/
def State.line (s : State) : List Byte := renderLine s.cfg.tagUlFix s.cfg.intW s.tpl s.ov

/-- The interval gate as POLL finds it in a state: it reads the clock and compares (R191 (3), R192). -/
def State.due (s : State) : Bool := decide (s.interval ≤ elapsed s.cfg.clkW s.clk s.lastSend)

/-- `n` calls of RX_CHECK. -/
def rxChecks : Nat → State → Out
  | 0, s => .next s
  | n + 1, s => andThen (exec .rxCheck s) fun t => rxChecks n t

/-- The serial sender appends bytes to a source that has room for them. -/
def State.deliver (s : State) (bytes : List Byte) : State := { s with rxq := s.rxq ++ bytes }

/-- The serial sender appends bytes one after another, whatever room the source has (R34, D19). -/
def State.arrive (s : State) (bytes : List Byte) : State := bytes.foldl State.rxAppend s

/-- The units of the template stream (R80). -/
def isTemplateUnit : Instr → Bool
  | .tLit _ => true
  | .tL => true
  | .tU => true
  | .tD => true
  | .tI => true
  | .tRsvd _ => true
  | .tTrunc => true
  | .tEol => true
  | .ul => true
  | .rxDiscard _ => false
  | .rxStart => false
  | .rxWord _ _ _ _ => false
  | .poll => false
  | .takeUpdated => false
  | .setEnabled _ => false
  | .setTemplate _ => false
  | .ivRead _ => false
  | .ovWrite _ _ => false
  | .ovRead _ => false
  | .hRsvd => false
  | .reset _ _ _ => false
  | .rxCheck => false
  | .txSend => false

/-- Bytes arrive in chunks, and after each chunk the block makes some number of RX_CHECK calls. -/
def feed : List (List Byte × Nat) → State → Out
  | [], s => .next s
  | (bytes, n) :: rest, s => andThen (rxChecks n (s.deliver bytes)) fun t => feed rest t

/-- RX_CHECK is called until a call consumes nothing: a call that consumes something consumes a byte, so as many calls
as there are bytes suffice. -/
def drain (s : State) : Out := rxChecks s.rxq.length s

/-- The units that scanning characters by R90 yields, from the first on; `n` bounds their number. -/
def unitsOf (fix : Bool) : Nat → List Byte → List Instr
  | 0, _ => []
  | n + 1, q =>
    match q with
    | [] => []
    | _ :: _ => (decodeTemplate fix q).1 :: unitsOf fix n (decodeTemplate fix q).2

/-- The units of a whole template: no more than it has characters. -/
def scanUnits (fix : Bool) (str : List Byte) : List Instr := unitsOf fix str.length str

/-- The operations of the host stream (R80, R103), with the sub-operations exposed for testing. -/
def isHostOperation : Instr → Bool
  | .poll => true
  | .takeUpdated => true
  | .setEnabled _ => true
  | .setTemplate _ => true
  | .ivRead _ => true
  | .ovWrite _ _ => true
  | .ovRead _ => true
  | .hRsvd => true
  | .reset _ _ _ => true
  | .rxCheck => true
  | .txSend => true
  | .rxDiscard _ => false
  | .rxStart => false
  | .rxWord _ _ _ _ => false
  | .tLit _ => false
  | .tL => false
  | .tU => false
  | .tD => false
  | .tI => false
  | .tRsvd _ => false
  | .tTrunc => false
  | .tEol => false
  | .ul => false

/-- Value of a run of decimal digit characters, most significant first (R91). -/
def digitsValue (l : List Byte) : Nat := l.foldl (fun n c => 10 * n + (c - charZero).toNat) 0

end Sys2Proof.Machine
end

