-- ==== Sys2Proof/Certificates/Slice0/Obligations.lean ====
section
/-! DEFINITION. What is claimed of the frame engine: statements only, each a `Prop`. -/

open Sys2Proof Sys2Proof.Machine

/-! ## The wire units and RX_CHECK -/

/-- R124: in AwaitingStart every byte but 0x3C is an RX.DISCARD, and it only takes the byte out of RXQ. -/
def Obligations.RxDiscardOnlyConsumesItsByte : Prop :=
  (∀ (b : Byte) (q : List Byte), b ≠ 0x3C → decodeWire .awaitingStart (b :: q) = .ok (.rxDiscard b, q))
    ∧ ∀ (b : Byte) (s : State), s.rxq ≠ [] → exec (.rxDiscard b) s = .next { s with rxq := s.rxq.tail }

/-- R125: 0x3C in AwaitingStart is RX.START; it takes the byte, enters ReceivingData and leaves RX_CHECK (the place
`gate`), writing nothing else. -/
def Obligations.RxStartEntersReceivingData : Prop :=
  (∀ q : List Byte, decodeWire .awaitingStart (0x3C :: q) = .ok (.rxStart, q))
    ∧ ∀ s : State, s.rxq ≠ [] →
        exec .rxStart s = .next { s with rxq := s.rxq.tail, rstate := .receivingData, ctl := .gate }

/-- R126, R128: any four bytes in ReceivingData are RX.WORD; it stores the concatenation of the bytes at FILL, advances
FILL modulo N_IN, and exactly when FILL was N_IN - 1 sets UPDATED, returns to AwaitingStart and leaves RX_CHECK. -/
def Obligations.RxWordStoresBigEndianWord : Prop :=
  (∀ (a b c d : Byte) (q : List Byte),
      decodeWire .receivingData (a :: b :: c :: d :: q) = .ok (.rxWord a b c d, q))
    ∧ ∀ (a b c d : Byte) (s : State), 4 ≤ s.rxq.length → s.fill < s.iv.length →
        exec (.rxWord a b c d) s = .next
          (let w : Word := (a ++ b ++ c ++ d : BitVec (8 + 8 + 8 + 8))
           if s.fill + 1 = s.iv.length then
             { s with rxq := s.rxq.drop 4, val := w, iv := s.iv.set s.fill w, fill := 0,
                      updated := true, rstate := .awaitingStart, ctl := .gate }
           else { s with rxq := s.rxq.drop 4, val := w, iv := s.iv.set s.fill w, fill := s.fill + 1 })

/-- Model's choice (log 22, log 23; 93 U5, U6): a wire unit executed with too few bytes in RXQ faults, and RX.WORD with
N_IN = 0 is refused. -/
def Obligations.WireUnitsStopOnEmptySource : Prop :=
  (∀ (b : Byte) (s : State), s.rxq = [] → exec (.rxDiscard b) s = .fault .emptySource)
    ∧ (∀ s : State, s.rxq = [] → exec .rxStart s = .fault .emptySource)
    ∧ (∀ (a b c d : Byte) (s : State), s.rxq.length < 4 → exec (.rxWord a b c d) s = .fault .emptySource)
    ∧ ∀ (a b c d : Byte) (s : State), 4 ≤ s.rxq.length → s.iv = [] →
        exec (.rxWord a b c d) s = .refused .emptyInputVector

/-- R122: RX_CHECK in AwaitingStart removes every byte up to and including the first 0x3C and enters ReceivingData, or
removes every byte when there is none; nothing else changes. -/
def Obligations.AwaitLoopStopsAtFirstMarker : Prop :=
  ∀ s : State, s.rstate = .awaitingStart →
    exec .rxCheck s = .next
      { s with rxq := (s.rxq.dropWhile (fun b => b != 0x3C)).drop 1
               rstate := if (0x3C : Byte) ∈ s.rxq then .receivingData else .awaitingStart }

/-- R123: RX_CHECK in ReceivingData executes as many RX.WORD as there are whole words available and places left before
the vector is complete, storing them in order from FILL on; it completes the frame when it reaches N_IN. -/
def Obligations.DataLoopStoresAvailableWords : Prop :=
  ∀ s : State, s.rstate = .receivingData → s.fill < s.iv.length →
    ∃ t : State, exec .rxCheck s = .next t ∧
      (let k := min (s.rxq.length / 4) (s.iv.length - s.fill)
       let full := decide (s.fill + k = s.iv.length)
       t = { s with rxq := s.rxq.drop (4 * k), iv := t.iv, val := t.val
                    fill := if full then 0 else s.fill + k
                    updated := s.updated || full
                    rstate := if full then .awaitingStart else .receivingData }
         ∧ ∀ j : Nat, t.iv[j]? =
             if s.fill ≤ j ∧ j < s.fill + k then some (headWord (s.rxq.drop (4 * (j - s.fill)))) else s.iv[j]?)

/-- R132: from AwaitingStart with FILL = 0 and an empty source, which is where reset leaves the receiver, a frame of V
is received by two calls of RX_CHECK: the first takes the marker and sets nothing, the second writes V and sets
UPDATED, and a third consumes nothing. -/
def Obligations.FrameRoundTrip : Prop :=
  (∀ p : Params, (State.resetWith p).rstate = .awaitingStart ∧ (State.resetWith p).fill = 0
      ∧ (State.resetWith p).rxq = [])
  ∧ ∀ (s : State) (v : List Word), s.rstate = .awaitingStart → s.fill = 0 → s.rxq = [] → s.iv ≠ [] →
    v.length = s.iv.length →
    ∃ r t : State,
      exec .rxCheck (s.deliver (frame v)) = .next r ∧ r.updated = s.updated ∧ r.iv = s.iv
        ∧ exec .rxCheck r = .next t
        ∧ t.iv = v ∧ t.updated = true ∧ t.rstate = .awaitingStart ∧ t.fill = 0 ∧ t.rxq = []
        ∧ exec .rxCheck t = .next t
        ∧ drain (s.deliver (frame v)) = .next t

/-- R131: whatever the chunks in which bytes arrive and however many RX_CHECK calls are made after each, once RX_CHECK
has been called until it consumes nothing the whole state is that of the same bytes delivered at once. -/
def Obligations.ReceptionIsChunkInvariant : Prop :=
  ∀ (s : State) (chunks : List (List Byte × Nat)), s.iv ≠ [] →
    andThen (feed chunks s) drain = drain (s.deliver (chunks.flatMap fun c => c.1))

/-- R133: bytes other than 0x3C in front of a start marker, or with none behind them, write nothing. -/
def Obligations.GarbageWritesNothing : Prop :=
  ∀ (s : State) (g rest : List Byte), s.rstate = .awaitingStart → (0x3C : Byte) ∉ g →
    (s.rxq = g → exec .rxCheck s = .next { s with rxq := [] })
      ∧ (s.rxq = g ++ 0x3C :: rest →
          exec .rxCheck s = .next { s with rxq := rest, rstate := .receivingData })

/-! ## The template units and TX_SEND -/

/-- R154: a character other than 0x25 is T.LIT, which copies it and advances TI by one. -/
def Obligations.LiteralIsCopied : Prop :=
  (∀ (fix : Bool) (c : Byte) (q : List Byte), c ≠ 0x25 → decodeTemplate fix (c :: q) = (.tLit c, q))
    ∧ ∀ (c : Byte) (s : State), exec (.tLit c) s = .next { s with txs := s.txs ++ [c], ti := s.ti + 1 }

/-- R155: `%l` is T.L, which renders the next element as a signed 32-bit integer in decimal. -/
def Obligations.TagLRendersSigned : Prop :=
  (∀ (fix : Bool) (q : List Byte), decodeTemplate fix (0x25 :: 0x6C :: q) = (.tL, q))
    ∧ (∀ (s : State) (w : Word), s.ov[s.cur]? = some w →
        exec .tL s = .next { s with
          txs := s.txs ++ dec (if w.toNat < 2 ^ 31 then (w.toNat : Int) else (w.toNat : Int) - 2 ^ 32)
          cur := s.cur + 1, ti := s.ti + 2 })
    ∧ ∀ s : State, s.ov.length ≤ s.cur → exec .tL s = .next { s with txs := s.txs ++ [0x30], ti := s.ti + 2 }

/-- R156: `%u` is T.U (the spec's choice of D12), which renders the next element as an unsigned integer in decimal. -/
def Obligations.TagURendersUnsigned : Prop :=
  (∀ q : List Byte, decodeTemplate false (0x25 :: 0x75 :: q) = (.tU, q))
    ∧ (∀ (s : State) (w : Word), s.ov[s.cur]? = some w →
        exec .tU s = .next { s with txs := s.txs ++ dec (w.toNat : Int), cur := s.cur + 1, ti := s.ti + 2 })
    ∧ ∀ s : State, s.ov.length ≤ s.cur → exec .tU s = .next { s with txs := s.txs ++ [0x30], ti := s.ti + 2 }

/-- R157, R158: `%d` and `%i` are T.D and T.I, which render the next element narrowed to INT_W bits. The narrowing is
that of R163, which the spec marks as its own decision (D9, method from general knowledge; log 14, PRESUMED): with
INT_W = 16 the value `((s_32(w) + 32768) mod 65536) - 32768`, with INT_W = 32 the signed word. -/
def Obligations.TagsDAndINarrowToIntWidth : Prop :=
  (∀ (fix : Bool) (q : List Byte), decodeTemplate fix (0x25 :: 0x64 :: q) = (.tD, q)
      ∧ decodeTemplate fix (0x25 :: 0x69 :: q) = (.tI, q))
    ∧ (∀ (s : State) (w : Word), s.ov[s.cur]? = some w →
        let t := { s with
          txs := s.txs ++ dec (match s.cfg.intW with
            | .w16 => (w.toInt + 32768) % 65536 - 32768
            | .w32 => w.toInt)
          cur := s.cur + 1, ti := s.ti + 2 }
        exec .tD s = .next t ∧ exec .tI s = .next t)
    ∧ ∀ s : State, s.ov.length ≤ s.cur →
        exec .tD s = .next { s with txs := s.txs ++ [0x30], ti := s.ti + 2 }
          ∧ exec .tI s = .next { s with txs := s.txs ++ [0x30], ti := s.ti + 2 }

/-- R159: the marker as last character is T.TRUNC, which writes nothing and leaves the scan loop (the place `sendEnd`,
where T.EOL comes next). -/
def Obligations.UnterminatedEscapeEndsTheScan : Prop :=
  (∀ fix : Bool, decodeTemplate fix [0x25] = (.tTrunc, []))
    ∧ (∀ s : State, exec .tTrunc s = .next { s with ctl := .sendEnd })
    ∧ ∀ s : State, s.ctl = .sendEnd → s.inputs = [] → step s = exec .tEol s

/-- R162: at the end of the template T.EOL appends the newline, clears CUR and leaves TX_SEND (the place `latch`). -/
def Obligations.EolAppendsNewline : Prop :=
  (∀ fix : Bool, decodeTemplate fix [] = (.tEol, []))
    ∧ ∀ s : State, exec .tEol s = .next { s with txs := s.txs ++ [0x0A], cur := 0, ctl := .latch }

/-- R160: a marker followed by a character other than `l`, `u`, `d`, `i` is T.RSVD, which is refused; so is a TX_SEND
whose scan meets one. -/
def Obligations.ReservedTagIsRefused : Prop :=
  (∀ (fix : Bool) (t : Byte) (q : List Byte), t ≠ 0x6C → t ≠ 0x75 → t ≠ 0x64 → t ≠ 0x69 →
      decodeTemplate fix (0x25 :: t :: q) = (.tRsvd t, q))
    ∧ (∀ (t : Byte) (s : State), exec (.tRsvd t) s = .refused .reservedTag)
    ∧ ∀ s : State, scanOk s.tpl = false → exec .txSend s = .refused .reservedTag

/-- R161: `%ul` is read as T.U and leaves the `l`, which is read as a literal; the pseudo-instruction has the effect of
the two, one after the other. -/
def Obligations.UlIsTagUThenLiteral : Prop :=
  (∀ q : List Byte, decodeTemplate false (0x25 :: 0x75 :: 0x6C :: q) = (.tU, 0x6C :: q)
      ∧ decodeTemplate false (0x6C :: q) = (.tLit 0x6C, q))
    ∧ ∀ s : State, s.cfg.tagUlFix = false →
        exec .ul s = .next { s with
          txs := s.txs ++ (match s.ov[s.cur]? with
            | some w => dec (w.toNat : Int)
            | none => [0x30]) ++ [0x6C]
          cur := if s.cur < s.ov.length then s.cur + 1 else s.cur
          ti := s.ti + 3 }

/-- The optional parameter TAG_UL_FIX (D12, U14; log 17): when true, `%ul` is one unit rendering the element
unsigned. -/
def Obligations.UlWithFixIsOneUnit : Prop :=
  (∀ q : List Byte, decodeTemplate true (0x25 :: 0x75 :: 0x6C :: q) = (.ul, q))
    ∧ ∀ s : State, s.cfg.tagUlFix = true →
        exec .ul s = .next { s with
          txs := s.txs ++ (match s.ov[s.cur]? with
            | some w => dec (w.toNat : Int)
            | none => [0x30])
          cur := if s.cur < s.ov.length then s.cur + 1 else s.cur
          ti := s.ti + 3 }

/-- R152: the defining equations of decimal text, for every integer. -/
def Obligations.DecimalTextFollowsItsEquations : Prop :=
  (∀ n : Int, n < 0 → dec n = 0x2D :: dec (-n))
    ∧ (∀ n : Nat, n ≤ 9 → dec (n : Int) = [0x30 + BitVec.ofNat 8 n])
    ∧ ∀ n : Nat, 10 ≤ n → dec (n : Int) = dec ((n / 10 : Nat) : Int) ++ [0x30 + BitVec.ofNat 8 (n % 10)]

/-- R91: the text of a number is one or more digits, without leading zero, the number zero the single digit `0`, behind
a minus sign exactly when the number is negative, and reading the digits back gives the number. -/
def Obligations.DecimalTextDenotesTheNumber : Prop :=
  dec 0 = [0x30]
  ∧ ∀ n : Nat,
    digitsValue (dec (n : Int)) = n
      ∧ dec (n : Int) ≠ []
      ∧ (∀ c ∈ dec (n : Int), 0x30 ≤ c.toNat ∧ c.toNat ≤ 0x39)
      ∧ (n ≠ 0 → (dec (n : Int)).head? ≠ some 0x30)
      ∧ (n ≠ 0 → dec (-(n : Int)) = 0x2D :: dec (n : Int))

/-- R86, R151: TX_SEND of a template whose scan meets no reserved tag appends exactly its line, the one that
`renderLine` gives by recursion on the template and the elements, and leaves every other piece of state but TI as it
was, with CUR cleared. -/
def Obligations.TxSendAppendsItsLine : Prop :=
  ∀ s : State, scanOk s.tpl = true →
    ∃ t : State, exec .txSend s = .next t ∧ t = { s with txs := s.txs ++ s.line, cur := 0, ti := t.ti }

/-- R164: a send of a template of L characters writes between 1 and 1 + 11 * L bytes. -/
def Obligations.LineLengthIsBounded : Prop :=
  ∀ s : State, scanOk s.tpl = true →
    ∃ t : State, exec .txSend s = .next t
      ∧ s.txs.length + 1 ≤ t.txs.length ∧ t.txs.length ≤ s.txs.length + (1 + 11 * s.tpl.length)

/-- S1 of 95 (R165): OutputVector [1, -2, 3] with the template `S %l %l %l E` yields the line `S 1 -2 3 E` and a
newline, byte for byte. -/
def Obligations.SourceExampleLine : Prop :=
  ∀ s : State, s.ov = [0x00000001, 0xFFFFFFFE, 0x00000003] →
    s.tpl = [0x53, 0x20, 0x25, 0x6C, 0x20, 0x25, 0x6C, 0x20, 0x25, 0x6C, 0x20, 0x45] →
    ∃ t : State, exec .txSend s = .next t
      ∧ t.txs = s.txs ++ [0x53, 0x20, 0x31, 0x20, 0x2D, 0x32, 0x20, 0x33, 0x20, 0x45, 0x0A]

/-- R100: a template is well-formed exactly when it fits the store, holds no 0x00, and scanning it unit by unit yields
no T.RSVD. -/
def Obligations.TemplateCheckIsTheUnitScan : Prop :=
  ∀ (fix : Bool) (tplMax : Nat) (str : List Byte),
    templateOk tplMax str = true ↔
      str.length ≤ tplMax ∧ (0x00 : Byte) ∉ str ∧ ∀ t : Byte, Instr.tRsvd t ∉ scanUnits fix str

/-! ## The host operations -/

/-- R191: host code 0 is POLL; a disabled POLL changes nothing; an enabled one makes one RX_CHECK, reads the clock once,
and when the gate is open sends one line and stores that clock reading in LAST_SEND, else only has read the clock. -/
def Obligations.PollReceivesThenSendsWhenDue : Prop :=
  (∀ c : Command, c.code = 0 → decodeCommand c = .poll)
  ∧ ∀ s : State, s.fill < s.iv.length → scanOk s.tpl = true →
    (s.enabled = false → exec .poll s = .next s)
      ∧ (s.enabled = true →
          ∃ r t : State, exec .rxCheck s = .next r ∧ exec .poll s = .next t
            ∧ t = (if s.due then
                     { r with now := s.clk, lastSend := s.clk, txs := s.txs ++ s.line, cur := 0, ti := t.ti }
                   else { r with now := s.clk }))

/-- R192: the elapsed time is the modular difference at the clock's own width, the comparison is unsigned `>=` and
inclusive, a clock that has advanced by d since the baseline reads d, wrapped or not, and with INTERVAL = 0 the gate is
always open. -/
def Obligations.IntervalGateIsModular : Prop :=
  (∀ w now last : Nat, (elapsed w now last : Int) = ((now : Int) - (last : Int)) % 2 ^ w)
    ∧ (∀ w last d : Nat, d < 2 ^ w → elapsed w ((last + d) % 2 ^ w) last = d)
    ∧ (∀ s : State, s.due = true ↔ (s.interval : Int) ≤ ((s.clk : Int) - (s.lastSend : Int)) % 2 ^ s.cfg.clkW)
    ∧ ∀ s : State, s.interval = 0 → s.due = true

/-- R193: TAKE_UPDATED, host code 1, returns the flag and clears it, enabled or not, so a second take returns false. -/
def Obligations.TakeUpdatedReturnsAndClears : Prop :=
  (∀ c : Command, c.code = 1 → decodeCommand c = .takeUpdated)
  ∧ ∀ s : State, ∃ t u : State,
    exec .takeUpdated s = .next t ∧ t = { s with updated := false, result := some (.bit s.updated) }
      ∧ exec .takeUpdated t = .next u ∧ u.result = some (.bit false)

/-- R194: SET_ENABLED, host code 2, writes ENABLED and nothing else. -/
def Obligations.SetEnabledWritesOnlyEnabled : Prop :=
  (∀ c : Command, c.code = 2 → decodeCommand c = .setEnabled c.en)
  ∧ ∀ (en : Bool) (s : State), exec (.setEnabled en) s = .next { s with enabled := en }

/-- R195: SET_TEMPLATE, host code 3, replaces the whole store by a well-formed template and changes nothing else; any
other argument is refused. -/
def Obligations.SetTemplateReplacesWholeStore : Prop :=
  (∀ c : Command, c.code = 3 → decodeCommand c = .setTemplate c.str)
  ∧ ∀ (str : List Byte) (s : State),
    (templateOk s.cfg.tplMax str = true → exec (.setTemplate str) s = .next { s with tpl := str })
      ∧ (templateOk s.cfg.tplMax str = false → exec (.setTemplate str) s = .refused .templateNotWellFormed)

/-- R196: IV_READ, host code 4, returns the element and writes no state but the result port; an index outside the vector is refused. -/
def Obligations.IvReadReturnsElement : Prop :=
  (∀ c : Command, c.code = 4 → decodeCommand c = .ivRead c.idx)
  ∧ ∀ (i : Nat) (s : State),
    (i < s.iv.length → exec (.ivRead i) s = .next { s with result := some (.word (s.iv.getD i 0)) })
      ∧ (s.iv.length ≤ i → exec (.ivRead i) s = .refused .indexOutsideVector)

/-- R197: OV_WRITE, host code 5, writes one element; an index outside the vector is refused. -/
def Obligations.OvWriteWritesElement : Prop :=
  (∀ c : Command, c.code = 5 → decodeCommand c = .ovWrite c.idx c.w)
  ∧ ∀ (i : Nat) (w : Word) (s : State),
    (i < s.ov.length → exec (.ovWrite i w) s = .next { s with ov := s.ov.set i w })
      ∧ (s.ov.length ≤ i → exec (.ovWrite i w) s = .refused .indexOutsideVector)

/-- R198: OV_READ, host code 6, returns the element and writes no state but the result port; an index outside the vector is refused. -/
def Obligations.OvReadReturnsElement : Prop :=
  (∀ c : Command, c.code = 6 → decodeCommand c = .ovRead c.idx)
  ∧ ∀ (i : Nat) (s : State),
    (i < s.ov.length → exec (.ovRead i) s = .next { s with result := some (.word (s.ov.getD i 0)) })
      ∧ (s.ov.length ≤ i → exec (.ovRead i) s = .refused .indexOutsideVector)

/-- R52, R67 (c): reading an OutputVector element after a write gives the written word at the written index and the old
word at every other. -/
def Obligations.OvReadAfterWrite : Prop :=
  ∀ (i j : Nat) (w : Word) (s : State), i < s.ov.length → j < s.ov.length →
    ∃ t u : State, exec (.ovWrite i w) s = .next t ∧ exec (.ovRead j) t = .next u
      ∧ u.result = some (.word (if j = i then w else s.ov.getD j 0))

/-- R103: command code 7 is the reserved operation, which is refused; codes 0 to 6 are the operations of the table. -/
def Obligations.HostCodesNameTheOperations : Prop :=
  (∀ c : Command,
      (c.code = 0 → decodeCommand c = .poll) ∧ (c.code = 1 → decodeCommand c = .takeUpdated)
        ∧ (c.code = 2 → decodeCommand c = .setEnabled c.en) ∧ (c.code = 3 → decodeCommand c = .setTemplate c.str)
        ∧ (c.code = 4 → decodeCommand c = .ivRead c.idx) ∧ (c.code = 5 → decodeCommand c = .ovWrite c.idx c.w)
        ∧ (c.code = 6 → decodeCommand c = .ovRead c.idx) ∧ (c.code = 7 → decodeCommand c = .hRsvd))
    ∧ ∀ s : State, exec .hRsvd s = .refused .reservedHostCode

/-- R250: RESET gives every piece of block state its reset value, leaves IV, OV, RXQ, TXS and CLK alone, sends nothing
and reads no byte; a configuration with N_IN = 0, an interval of more than CLK_W bits or a template that is not
well-formed is refused. Nothing is said here of `ctl`, the model's own field. -/
def Obligations.ResetInitialisesBlockState : Prop :=
  ∀ (tpl : List Byte) (interval : Nat) (en : Option Bool) (s : State),
    (s.iv ≠ [] → interval < 2 ^ s.cfg.clkW → templateOk s.cfg.tplMax tpl = true →
        ∃ t : State, exec (.reset tpl interval en) s = .next t ∧ t = { s with
          rstate := .awaitingStart, fill := 0, updated := false
          enabled := (match en with
            | some b => b
            | none => true)
          interval := interval, lastSend := s.cfg.lastSendReset, tpl := tpl, ctl := t.ctl })
      ∧ (s.iv = [] ∨ 2 ^ s.cfg.clkW ≤ interval → exec (.reset tpl interval en) s = .refused .configuration)
      ∧ (s.iv ≠ [] → interval < 2 ^ s.cfg.clkW → templateOk s.cfg.tplMax tpl = false →
          exec (.reset tpl interval en) s = .refused .templateNotWellFormed)

/-- The model's reading (log 13; DEDUCED from R252): RESET leaves the block between operations, whatever it was doing. -/
def Obligations.ResetEndsTheOperationInProgress : Prop :=
  ∀ (tpl : List Byte) (interval : Nat) (en : Option Bool) (s t : State),
    exec (.reset tpl interval en) s = .next t → t.ctl = .idle ∧ t.inputs = s.inputs ∧ t.result = s.result

/-! ## The state after reset, and invariants -/

/-- R40: the values after reset, for every configuration, and what RESET does not touch. -/
def Obligations.ResetValues : Prop :=
  (∀ (tpl : List Byte) (interval : Nat) (en : Option Bool) (s t : State), exec (.reset tpl interval en) s = .next t →
    t.rxq = s.rxq ∧ t.txs = s.txs ∧ t.clk = s.clk)
  ∧ ∀ p : Params,
    (State.resetWith p).rstate = .awaitingStart ∧ (State.resetWith p).fill = 0
      ∧ (State.resetWith p).updated = false
      ∧ (State.resetWith p).enabled = (match p.enReset with
          | some b => b
          | none => true)
      ∧ (State.resetWith p).lastSend = p.lastSendReset ∧ (State.resetWith p).interval = p.interval
      ∧ (State.resetWith p).tpl = p.tplReset ∧ (State.resetWith p).iv = p.ivReset
      ∧ (State.resetWith p).ov = p.ovReset

/-- The invariants hold after reset of every admitted configuration, and of the one the log names (log 2 to log 5). -/
def Obligations.ResetMeetsTheInvariants : Prop :=
  (∀ p : Params, p.ok = true → (State.resetWith p).Inv) ∧ State.reset.Inv

/-- R37, R25, R28 to R32, R21, R22: every step from a state that meets the invariants reaches one that meets them, with
whatever the host, the serial sender and the clock do next. -/
def Obligations.StepKeepsTheInvariants : Prop :=
  ∀ s t : State, s.Inv → step s = .next t → t.Inv

/-- R220, R222: from a state that meets the invariants a step never faults, and it is refused only where the next
pending host operation is one that the spec gives no meaning. -/
def Obligations.OnlyHostOperationsAreRefused : Prop :=
  ∀ s : State, s.Inv →
    (∀ f : Fault, step s ≠ .fault f)
      ∧ ∀ r : Refusal, step s = .refused r →
          s.ctl = .idle ∧ ∃ c rest, s.inputs = .command c :: rest
            ∧ exec (decodeCommand c) s = .refused r ∧ decodeCommand c ≠ .poll

/-- R6, R21, R22, R39: no instruction changes the configuration or the length of a vector, or touches the clock or the
pending moves of host and environment. -/
def Obligations.NothingChangesTheConfiguration : Prop :=
  ∀ (i : Instr) (s t : State), exec i s = .next t →
    t.cfg = s.cfg ∧ t.iv.length = s.iv.length ∧ t.ov.length = s.ov.length ∧ t.clk = s.clk ∧ t.inputs = s.inputs

/-- R21, R22, R24 to R27, R30 to R32: each piece of block state changes only by its writers. -/
def Obligations.EveryElementHasItsWriters : Prop :=
  ∀ (i : Instr) (s t : State), exec i s = .next t →
    (t.iv ≠ s.iv → i = .poll ∨ i = .rxCheck ∨ ∃ a b c d, i = .rxWord a b c d)
      ∧ (t.ov ≠ s.ov → ∃ idx w, i = .ovWrite idx w)
      ∧ (s.updated = true → t.updated = false → i = .takeUpdated ∨ ∃ tpl n en, i = .reset tpl n en)
      ∧ (s.updated = false → t.updated = true → i = .poll ∨ i = .rxCheck ∨ ∃ a b c d, i = .rxWord a b c d)
      ∧ (t.enabled ≠ s.enabled → (∃ en, i = .setEnabled en) ∨ ∃ tpl n en, i = .reset tpl n en)
      ∧ (t.lastSend ≠ s.lastSend → i = .poll ∨ ∃ tpl n en, i = .reset tpl n en)
      ∧ (t.interval ≠ s.interval → ∃ tpl n en, i = .reset tpl n en)
      ∧ (t.tpl ≠ s.tpl → (∃ str, i = .setTemplate str) ∨ ∃ tpl n en, i = .reset tpl n en)
      ∧ (t.rstate ≠ s.rstate → i = .rxStart ∨ i = .poll ∨ i = .rxCheck ∨ (∃ a b c d, i = .rxWord a b c d)
          ∨ ∃ tpl n en, i = .reset tpl n en)
      ∧ (t.fill ≠ s.fill → i = .poll ∨ i = .rxCheck ∨ (∃ a b c d, i = .rxWord a b c d)
          ∨ ∃ tpl n en, i = .reset tpl n en)

/-- R35, R55: a step never takes a byte out of TXS or changes one already there. -/
def Obligations.OutboundLogIsAppendOnly : Prop :=
  ∀ s t : State, step s = .next t → s.txs <+: t.txs

/-- R20, R28, R29, R33: the transient state cannot be observed between operations: what a host operation answers, and
the state it leaves apart from the transient state, do not depend on the transient state it found. -/
def Obligations.TransientStateIsUnobservable : Prop :=
  ∀ (i : Instr) (s : State), isHostOperation i = true →
    forgetIn (exec i s) = forgetIn (exec i s.forgetTransient)

/-! ## Steps -/

/-- What a step runs inside a POLL taken by units, with no other move pending: inside RX_CHECK the unit that the
receiver's state makes of the head of RXQ, or the return where there is none (R122, R123); inside TX_SEND, entered with
TI and CUR 0 (R151), the unit at TI, and T.EOL after T.TRUNC (R159, R162); between them the gate and the baseline of
R191. That a step between operations changes nothing is the model's choice (log 12; R252 says only that the block does
what the next host operation asks), and so is `ctl`, which says where the block stands (log 7). -/
def Obligations.StepRunsTheFetchedUnit : Prop :=
  ∀ s : State, s.inputs = [] →
    (∀ i q, s.ctl = .receive → decodeWire s.rstate s.rxq = .ok (i, q) → step s = exec i s)
      ∧ (∀ e, s.ctl = .receive → decodeWire s.rstate s.rxq = .error e → step s = .next { s with ctl := .gate })
      ∧ (s.ctl = .gate → step s = .next
          (if s.due then { s with now := s.clk, ti := 0, cur := 0, ctl := .send }
           else { s with now := s.clk, ctl := .idle }))
      ∧ (∀ i q, s.ctl = .send → decodeTemplate s.cfg.tagUlFix (s.tpl.drop s.ti) = (i, q) → step s = exec i s)
      ∧ (s.ctl = .sendEnd → step s = exec .tEol s)
      ∧ (s.ctl = .latch → step s = .next { s with lastSend := s.now, ctl := .idle })
      ∧ (s.ctl = .idle → step s = .next s)

/-- What a step runs between operations when a move of the host is pending: the command it decodes, whole (R63, R103);
POLL by units, which enters RX_CHECK when enabled and ends at once when not (R191); or RESET with the configuration's
own parameters (D2). That host moves stand in a list of pending moves, and that POLL is issued whole or by units, is the
model's choice (log 8, log 11). -/
def Obligations.StepRunsThePendingHostOperation : Prop :=
  ∀ (s : State) (rest : List Input), s.ctl = .idle →
    (∀ c, s.inputs = .command c :: rest → step s = exec (decodeCommand c) { s with inputs := rest })
      ∧ (s.inputs = .pollByUnits :: rest → step s = .next
          (if s.enabled then { s with inputs := rest, ctl := .receive } else { s with inputs := rest }))
      ∧ (s.inputs = .resetInput :: rest →
          step s = exec (.reset s.cfg.tplReset s.cfg.interval s.cfg.enReset) { s with inputs := rest })

/-- A host operation that is next in the pending moves while another is in progress waits, and the block goes on as if
it were not there. That is the model's choice (log 12): the spec says only that the host issues none then (R13, R226,
U16). -/
def Obligations.HostOperationWaitsForTheOneInProgress : Prop :=
  ∀ (s : State) (i : Input) (rest : List Input), s.ctl ≠ .idle → s.inputs = i :: rest →
    ((∃ c, i = .command c) ∨ i = .pollByUnits ∨ i = .resetInput) →
    step s = andThen (step { s with inputs := [] }) fun t => .next { t with inputs := s.inputs }

/-- R14, R34, R36: at any place, inside an operation and inside RX.WORD too, the serial sender's byte goes to the tail of
RXQ, the clock advances modulo `2^CLK_W`, and a `run` move lets the block step, as a `read` move does where no word is
to be read. A byte that finds RXQ full is lost: the model's choice (D19, log 10). -/
def Obligations.EnvironmentMovesInsideOperations : Prop :=
  ∀ (s : State) (rest : List Input),
    (∀ b, s.inputs = .append b :: rest →
        (∀ n, s.cfg.rxqDepth = some n → s.rxq.length < n) →
        step s = .next { s with inputs := rest, rxq := s.rxq ++ [b] })
      ∧ (∀ b n, s.inputs = .append b :: rest → s.cfg.rxqDepth = some n → n ≤ s.rxq.length →
          step s = .next { s with inputs := rest })
      ∧ (∀ ms, s.inputs = .advance ms :: rest →
          step s = .next { s with inputs := rest, clk := (s.clk + ms) % 2 ^ s.cfg.clkW })
      ∧ (s.inputs = .run :: rest →
          step s = andThen (step { s with inputs := [] }) fun t => .next { t with inputs := rest })
      ∧ (s.inputs = .read :: rest → ¬ (s.ctl = .receive ∧ s.rstate = .receivingData ∧ 4 ≤ s.rxq.length) →
          step s = andThen (step { s with inputs := [] }) fun t => .next { t with inputs := rest })

/-- R126, R63: RX.WORD by single reads, each a step of its own, so that the environment can move between them: the first
read starts from VAL = 0, each shifts VAL left by 8 and ORs in the byte it takes, and the fourth stores VAL at FILL and
goes on as RX.WORD does. The `read` move that asks for the first one is the model's (log 8). -/
def Obligations.RxWordReadsByteByByte : Prop :=
  ∀ (s : State) (x : Byte) (q : List Byte), s.rxq = x :: q → s.fill < s.iv.length →
    (∀ rest, s.ctl = .receive → s.rstate = .receivingData → 3 ≤ q.length → s.inputs = .read :: rest →
        step s = .next { s with inputs := rest, rxq := q, val := x.zeroExtend 32, ctl := .wordRead1 })
      ∧ (s.ctl = .wordRead1 → s.inputs = [] →
          step s = .next { s with rxq := q, val := (s.val <<< 8) ||| x.zeroExtend 32, ctl := .wordRead2 })
      ∧ (s.ctl = .wordRead2 → s.inputs = [] →
          step s = .next { s with rxq := q, val := (s.val <<< 8) ||| x.zeroExtend 32, ctl := .wordRead3 })
      ∧ (s.ctl = .wordRead3 → s.inputs = [] →
          step s = .next
            (let w : Word := (s.val <<< 8) ||| x.zeroExtend 32
             if s.fill + 1 = s.iv.length then
               { s with rxq := q, val := w, iv := s.iv.set s.fill w, fill := 0,
                        updated := true, rstate := .awaitingStart, ctl := .gate }
             else { s with rxq := q, val := w, iv := s.iv.set s.fill w, fill := s.fill + 1, ctl := .receive }))

/-- R63: bytes that arrive between the four reads of one RX.WORD cannot change its result: whatever arrives in the three
gaps, the reads end where RX.WORD taken whole ends, but for RXQ, which holds what reads and arrivals in that order
leave (a byte that finds RXQ full at its own moment is lost: the model's choice, log 10). -/
def Obligations.ArrivalsInsideAWordOnlyReachTheSource : Prop :=
  ∀ (s : State) (a b c d : Byte) (q l1 l2 l3 : List Byte), s.ctl = .receive → s.rstate = .receivingData → s.iv ≠ [] →
    s.rxq = a :: b :: c :: d :: q →
    s.inputs = .read :: (l1.map Input.append ++ .read :: (l2.map Input.append ++ .read ::
      (l3.map Input.append ++ [.read]))) →
    ∃ (t : State) (n : Nat), exec (.rxWord a b c d) { s with inputs := [] } = .next t
      ∧ Sys2Proof.core.run n s = .next { t with
          rxq := (((((((s.rxDrop 1).arrive l1).rxDrop 1).arrive l2).rxDrop 1).arrive l3).rxDrop 1).rxq }

/-- R14: the order of an arrival and a unit, or of a clock advance and a unit, does not matter: of an arrival and a template
unit, whether RXQ has room or not; of an arrival and RX.DISCARD or RX.START with a byte to read, where RXQ has room;
of a clock advance and any wire or template unit. Where RXQ is full an arrival before RX.DISCARD or RX.START is lost and
the unit does what it does without it (lost: the model's choice, log 10). -/
def Obligations.EnvironmentCommutesWithUnits : Prop :=
  (∀ (i : Instr) (s : State) (b : Byte), isTemplateUnit i = true →
      exec i (s.rxAppend b) = andThen (exec i s) fun t => .next (t.rxAppend b))
    ∧ (∀ (i : Instr) (s : State) (b : Byte), ((∃ x, i = .rxDiscard x) ∨ i = .rxStart) → s.rxq ≠ [] →
        ((∀ n, s.cfg.rxqDepth = some n → s.rxq.length < n) →
          exec i (s.rxAppend b) = andThen (exec i s) fun t => .next (t.rxAppend b))
        ∧ ∀ n, s.cfg.rxqDepth = some n → n ≤ s.rxq.length → exec i (s.rxAppend b) = exec i s)
    ∧ ∀ (i : Instr) (s : State) (ms : Nat), isHostOperation i = false →
        exec i (s.clkAdvance ms) = andThen (exec i s) fun t => .next (t.clkAdvance ms)

/-- R63, R191: POLL taken by units, with sender and clock quiet, ends where POLL taken whole ends, in the same state or
the same refusal. -/
def Obligations.PollByUnitsEndsWherePollEnds : Prop :=
  ∀ s : State, s.ctl = .idle → s.inputs = [.pollByUnits] →
    ∃ n : Nat, Sys2Proof.core.run n s = exec .poll { s with inputs := [] }

/-! ## Encodings -/

/-- The decoder reads back every well-formed instruction from its encoding, with every operand value; only RX_CHECK and
TX_SEND have no encoding (R103). -/
def Obligations.DecodeOfEncode : Prop :=
  (∀ (p : Params) (i : Instr) (e : Encoding), i.wf p = true → encode i = some e → decode p.tagUlFix e = .ok i)
    ∧ ∀ i : Instr, encode i = none ↔ i = .rxCheck ∨ i = .txSend

/-- The other direction: what a stream decoder reads is exactly the encoding of the unit it answers, followed by what it
leaves, and a wire unit that is read is well-formed. -/
def Obligations.EncodeOfDecode : Prop :=
  (∀ (m : RState) (q rest : List Byte) (i : Instr), decodeWire m q = .ok (i, rest) →
      ∃ bytes, encode i = some (.wire m bytes) ∧ q = bytes ++ rest ∧ ∀ p : Params, i.wf p = true)
    ∧ ∀ (fix : Bool) (q rest : List Byte) (i : Instr), decodeTemplate fix q = (i, rest) →
        ∃ chars, encode i = some (.template chars) ∧ q = chars ++ rest

/-- A few encodings written out from 30_encoding R82, R89, R103. -/
def Obligations.SpecWordsDecode : Prop :=
  decode false (.wire .awaitingStart [0x3C]) = .ok .rxStart
    ∧ decode false (.wire .receivingData [0x3C, 0x00, 0xFF, 0x80]) = .ok (.rxWord 0x3C 0x00 0xFF 0x80)
    ∧ decode false (.template [0x25, 0x6C]) = .ok .tL
    ∧ decode false (.template [0x25, 0x75]) = .ok .tU
    ∧ decode false (.template [0x25, 0x64]) = .ok .tD
    ∧ decode false (.template [0x25, 0x69]) = .ok .tI
    ∧ decode false (.template [0x25]) = .ok .tTrunc
    ∧ decode false (.command { code := 0b011, en := false, str := [0x25, 0x75], idx := 0, w := 0 })
        = .ok (.setTemplate [0x25, 0x75])
end

