-- ==== Sys2Proof/Laws/State.lean ====
section
/-! SUPPORT. What each named update of the state leaves in each field, so that no proof unfolds a record update. -/

namespace Sys2Proof.Machine

variable (s : State)

/-! `State.rxDrop`. -/

@[simp] theorem rxDrop_cfg (n : Nat) : (s.rxDrop n).cfg = s.cfg := rfl
@[simp] theorem rxDrop_iv (n : Nat) : (s.rxDrop n).iv = s.iv := rfl
@[simp] theorem rxDrop_ov (n : Nat) : (s.rxDrop n).ov = s.ov := rfl
@[simp] theorem rxDrop_rstate (n : Nat) : (s.rxDrop n).rstate = s.rstate := rfl
@[simp] theorem rxDrop_fill (n : Nat) : (s.rxDrop n).fill = s.fill := rfl
@[simp] theorem rxDrop_updated (n : Nat) : (s.rxDrop n).updated = s.updated := rfl
@[simp] theorem rxDrop_enabled (n : Nat) : (s.rxDrop n).enabled = s.enabled := rfl
@[simp] theorem rxDrop_lastSend (n : Nat) : (s.rxDrop n).lastSend = s.lastSend := rfl
@[simp] theorem rxDrop_interval (n : Nat) : (s.rxDrop n).interval = s.interval := rfl
@[simp] theorem rxDrop_tpl (n : Nat) : (s.rxDrop n).tpl = s.tpl := rfl
@[simp] theorem rxDrop_ti (n : Nat) : (s.rxDrop n).ti = s.ti := rfl
@[simp] theorem rxDrop_cur (n : Nat) : (s.rxDrop n).cur = s.cur := rfl
@[simp] theorem rxDrop_val (n : Nat) : (s.rxDrop n).val = s.val := rfl
@[simp] theorem rxDrop_now (n : Nat) : (s.rxDrop n).now = s.now := rfl
@[simp] theorem rxDrop_rxq (n : Nat) : (s.rxDrop n).rxq = s.rxq.drop n := rfl
@[simp] theorem rxDrop_txs (n : Nat) : (s.rxDrop n).txs = s.txs := rfl
@[simp] theorem rxDrop_clk (n : Nat) : (s.rxDrop n).clk = s.clk := rfl
@[simp] theorem rxDrop_ctl (n : Nat) : (s.rxDrop n).ctl = s.ctl := rfl
@[simp] theorem rxDrop_result (n : Nat) : (s.rxDrop n).result = s.result := rfl
@[simp] theorem rxDrop_inputs (n : Nat) : (s.rxDrop n).inputs = s.inputs := rfl

/-! `State.txWrite`. -/

@[simp] theorem txWrite_cfg (l : List Byte) : (s.txWrite l).cfg = s.cfg := rfl
@[simp] theorem txWrite_iv (l : List Byte) : (s.txWrite l).iv = s.iv := rfl
@[simp] theorem txWrite_ov (l : List Byte) : (s.txWrite l).ov = s.ov := rfl
@[simp] theorem txWrite_rstate (l : List Byte) : (s.txWrite l).rstate = s.rstate := rfl
@[simp] theorem txWrite_fill (l : List Byte) : (s.txWrite l).fill = s.fill := rfl
@[simp] theorem txWrite_updated (l : List Byte) : (s.txWrite l).updated = s.updated := rfl
@[simp] theorem txWrite_enabled (l : List Byte) : (s.txWrite l).enabled = s.enabled := rfl
@[simp] theorem txWrite_lastSend (l : List Byte) : (s.txWrite l).lastSend = s.lastSend := rfl
@[simp] theorem txWrite_interval (l : List Byte) : (s.txWrite l).interval = s.interval := rfl
@[simp] theorem txWrite_tpl (l : List Byte) : (s.txWrite l).tpl = s.tpl := rfl
@[simp] theorem txWrite_ti (l : List Byte) : (s.txWrite l).ti = s.ti := rfl
@[simp] theorem txWrite_cur (l : List Byte) : (s.txWrite l).cur = s.cur := rfl
@[simp] theorem txWrite_val (l : List Byte) : (s.txWrite l).val = s.val := rfl
@[simp] theorem txWrite_now (l : List Byte) : (s.txWrite l).now = s.now := rfl
@[simp] theorem txWrite_rxq (l : List Byte) : (s.txWrite l).rxq = s.rxq := rfl
@[simp] theorem txWrite_txs (l : List Byte) : (s.txWrite l).txs = s.txs ++ l := rfl
@[simp] theorem txWrite_clk (l : List Byte) : (s.txWrite l).clk = s.clk := rfl
@[simp] theorem txWrite_ctl (l : List Byte) : (s.txWrite l).ctl = s.ctl := rfl
@[simp] theorem txWrite_result (l : List Byte) : (s.txWrite l).result = s.result := rfl
@[simp] theorem txWrite_inputs (l : List Byte) : (s.txWrite l).inputs = s.inputs := rfl

/-! `State.clkAdvance`. -/

@[simp] theorem clkAdvance_cfg (n : Nat) : (s.clkAdvance n).cfg = s.cfg := rfl
@[simp] theorem clkAdvance_iv (n : Nat) : (s.clkAdvance n).iv = s.iv := rfl
@[simp] theorem clkAdvance_ov (n : Nat) : (s.clkAdvance n).ov = s.ov := rfl
@[simp] theorem clkAdvance_rstate (n : Nat) : (s.clkAdvance n).rstate = s.rstate := rfl
@[simp] theorem clkAdvance_fill (n : Nat) : (s.clkAdvance n).fill = s.fill := rfl
@[simp] theorem clkAdvance_updated (n : Nat) : (s.clkAdvance n).updated = s.updated := rfl
@[simp] theorem clkAdvance_enabled (n : Nat) : (s.clkAdvance n).enabled = s.enabled := rfl
@[simp] theorem clkAdvance_lastSend (n : Nat) : (s.clkAdvance n).lastSend = s.lastSend := rfl
@[simp] theorem clkAdvance_interval (n : Nat) : (s.clkAdvance n).interval = s.interval := rfl
@[simp] theorem clkAdvance_tpl (n : Nat) : (s.clkAdvance n).tpl = s.tpl := rfl
@[simp] theorem clkAdvance_ti (n : Nat) : (s.clkAdvance n).ti = s.ti := rfl
@[simp] theorem clkAdvance_cur (n : Nat) : (s.clkAdvance n).cur = s.cur := rfl
@[simp] theorem clkAdvance_val (n : Nat) : (s.clkAdvance n).val = s.val := rfl
@[simp] theorem clkAdvance_now (n : Nat) : (s.clkAdvance n).now = s.now := rfl
@[simp] theorem clkAdvance_rxq (n : Nat) : (s.clkAdvance n).rxq = s.rxq := rfl
@[simp] theorem clkAdvance_txs (n : Nat) : (s.clkAdvance n).txs = s.txs := rfl
@[simp] theorem clkAdvance_clk (n : Nat) : (s.clkAdvance n).clk = (s.clk + n) % 2 ^ s.cfg.clkW := rfl
@[simp] theorem clkAdvance_ctl (n : Nat) : (s.clkAdvance n).ctl = s.ctl := rfl
@[simp] theorem clkAdvance_result (n : Nat) : (s.clkAdvance n).result = s.result := rfl
@[simp] theorem clkAdvance_inputs (n : Nat) : (s.clkAdvance n).inputs = s.inputs := rfl

/-! `State.sampleClock`. -/

@[simp] theorem sampleClock_cfg : (s.sampleClock).cfg = s.cfg := rfl
@[simp] theorem sampleClock_iv : (s.sampleClock).iv = s.iv := rfl
@[simp] theorem sampleClock_ov : (s.sampleClock).ov = s.ov := rfl
@[simp] theorem sampleClock_rstate : (s.sampleClock).rstate = s.rstate := rfl
@[simp] theorem sampleClock_fill : (s.sampleClock).fill = s.fill := rfl
@[simp] theorem sampleClock_updated : (s.sampleClock).updated = s.updated := rfl
@[simp] theorem sampleClock_enabled : (s.sampleClock).enabled = s.enabled := rfl
@[simp] theorem sampleClock_lastSend : (s.sampleClock).lastSend = s.lastSend := rfl
@[simp] theorem sampleClock_interval : (s.sampleClock).interval = s.interval := rfl
@[simp] theorem sampleClock_tpl : (s.sampleClock).tpl = s.tpl := rfl
@[simp] theorem sampleClock_ti : (s.sampleClock).ti = s.ti := rfl
@[simp] theorem sampleClock_cur : (s.sampleClock).cur = s.cur := rfl
@[simp] theorem sampleClock_val : (s.sampleClock).val = s.val := rfl
@[simp] theorem sampleClock_now : (s.sampleClock).now = s.clk := rfl
@[simp] theorem sampleClock_rxq : (s.sampleClock).rxq = s.rxq := rfl
@[simp] theorem sampleClock_txs : (s.sampleClock).txs = s.txs := rfl
@[simp] theorem sampleClock_clk : (s.sampleClock).clk = s.clk := rfl
@[simp] theorem sampleClock_ctl : (s.sampleClock).ctl = s.ctl := rfl
@[simp] theorem sampleClock_result : (s.sampleClock).result = s.result := rfl
@[simp] theorem sampleClock_inputs : (s.sampleClock).inputs = s.inputs := rfl

/-! `State.latchLastSend`. -/

@[simp] theorem latchLastSend_cfg : (s.latchLastSend).cfg = s.cfg := rfl
@[simp] theorem latchLastSend_iv : (s.latchLastSend).iv = s.iv := rfl
@[simp] theorem latchLastSend_ov : (s.latchLastSend).ov = s.ov := rfl
@[simp] theorem latchLastSend_rstate : (s.latchLastSend).rstate = s.rstate := rfl
@[simp] theorem latchLastSend_fill : (s.latchLastSend).fill = s.fill := rfl
@[simp] theorem latchLastSend_updated : (s.latchLastSend).updated = s.updated := rfl
@[simp] theorem latchLastSend_enabled : (s.latchLastSend).enabled = s.enabled := rfl
@[simp] theorem latchLastSend_lastSend : (s.latchLastSend).lastSend = s.now := rfl
@[simp] theorem latchLastSend_interval : (s.latchLastSend).interval = s.interval := rfl
@[simp] theorem latchLastSend_tpl : (s.latchLastSend).tpl = s.tpl := rfl
@[simp] theorem latchLastSend_ti : (s.latchLastSend).ti = s.ti := rfl
@[simp] theorem latchLastSend_cur : (s.latchLastSend).cur = s.cur := rfl
@[simp] theorem latchLastSend_val : (s.latchLastSend).val = s.val := rfl
@[simp] theorem latchLastSend_now : (s.latchLastSend).now = s.now := rfl
@[simp] theorem latchLastSend_rxq : (s.latchLastSend).rxq = s.rxq := rfl
@[simp] theorem latchLastSend_txs : (s.latchLastSend).txs = s.txs := rfl
@[simp] theorem latchLastSend_clk : (s.latchLastSend).clk = s.clk := rfl
@[simp] theorem latchLastSend_ctl : (s.latchLastSend).ctl = s.ctl := rfl
@[simp] theorem latchLastSend_result : (s.latchLastSend).result = s.result := rfl
@[simp] theorem latchLastSend_inputs : (s.latchLastSend).inputs = s.inputs := rfl

/-! `State.ovStore`. -/

@[simp] theorem ovStore_cfg (i : Nat) (w : Word) : (s.ovStore i w).cfg = s.cfg := rfl
@[simp] theorem ovStore_iv (i : Nat) (w : Word) : (s.ovStore i w).iv = s.iv := rfl
@[simp] theorem ovStore_ov (i : Nat) (w : Word) : (s.ovStore i w).ov = s.ov.set i w := rfl
@[simp] theorem ovStore_rstate (i : Nat) (w : Word) : (s.ovStore i w).rstate = s.rstate := rfl
@[simp] theorem ovStore_fill (i : Nat) (w : Word) : (s.ovStore i w).fill = s.fill := rfl
@[simp] theorem ovStore_updated (i : Nat) (w : Word) : (s.ovStore i w).updated = s.updated := rfl
@[simp] theorem ovStore_enabled (i : Nat) (w : Word) : (s.ovStore i w).enabled = s.enabled := rfl
@[simp] theorem ovStore_lastSend (i : Nat) (w : Word) : (s.ovStore i w).lastSend = s.lastSend := rfl
@[simp] theorem ovStore_interval (i : Nat) (w : Word) : (s.ovStore i w).interval = s.interval := rfl
@[simp] theorem ovStore_tpl (i : Nat) (w : Word) : (s.ovStore i w).tpl = s.tpl := rfl
@[simp] theorem ovStore_ti (i : Nat) (w : Word) : (s.ovStore i w).ti = s.ti := rfl
@[simp] theorem ovStore_cur (i : Nat) (w : Word) : (s.ovStore i w).cur = s.cur := rfl
@[simp] theorem ovStore_val (i : Nat) (w : Word) : (s.ovStore i w).val = s.val := rfl
@[simp] theorem ovStore_now (i : Nat) (w : Word) : (s.ovStore i w).now = s.now := rfl
@[simp] theorem ovStore_rxq (i : Nat) (w : Word) : (s.ovStore i w).rxq = s.rxq := rfl
@[simp] theorem ovStore_txs (i : Nat) (w : Word) : (s.ovStore i w).txs = s.txs := rfl
@[simp] theorem ovStore_clk (i : Nat) (w : Word) : (s.ovStore i w).clk = s.clk := rfl
@[simp] theorem ovStore_ctl (i : Nat) (w : Word) : (s.ovStore i w).ctl = s.ctl := rfl
@[simp] theorem ovStore_result (i : Nat) (w : Word) : (s.ovStore i w).result = s.result := rfl
@[simp] theorem ovStore_inputs (i : Nat) (w : Word) : (s.ovStore i w).inputs = s.inputs := rfl

/-! `State.setCtl`. -/

@[simp] theorem setCtl_cfg (c : Ctl) : (s.setCtl c).cfg = s.cfg := rfl
@[simp] theorem setCtl_iv (c : Ctl) : (s.setCtl c).iv = s.iv := rfl
@[simp] theorem setCtl_ov (c : Ctl) : (s.setCtl c).ov = s.ov := rfl
@[simp] theorem setCtl_rstate (c : Ctl) : (s.setCtl c).rstate = s.rstate := rfl
@[simp] theorem setCtl_fill (c : Ctl) : (s.setCtl c).fill = s.fill := rfl
@[simp] theorem setCtl_updated (c : Ctl) : (s.setCtl c).updated = s.updated := rfl
@[simp] theorem setCtl_enabled (c : Ctl) : (s.setCtl c).enabled = s.enabled := rfl
@[simp] theorem setCtl_lastSend (c : Ctl) : (s.setCtl c).lastSend = s.lastSend := rfl
@[simp] theorem setCtl_interval (c : Ctl) : (s.setCtl c).interval = s.interval := rfl
@[simp] theorem setCtl_tpl (c : Ctl) : (s.setCtl c).tpl = s.tpl := rfl
@[simp] theorem setCtl_ti (c : Ctl) : (s.setCtl c).ti = s.ti := rfl
@[simp] theorem setCtl_cur (c : Ctl) : (s.setCtl c).cur = s.cur := rfl
@[simp] theorem setCtl_val (c : Ctl) : (s.setCtl c).val = s.val := rfl
@[simp] theorem setCtl_now (c : Ctl) : (s.setCtl c).now = s.now := rfl
@[simp] theorem setCtl_rxq (c : Ctl) : (s.setCtl c).rxq = s.rxq := rfl
@[simp] theorem setCtl_txs (c : Ctl) : (s.setCtl c).txs = s.txs := rfl
@[simp] theorem setCtl_clk (c : Ctl) : (s.setCtl c).clk = s.clk := rfl
@[simp] theorem setCtl_ctl (c : Ctl) : (s.setCtl c).ctl = c := rfl
@[simp] theorem setCtl_result (c : Ctl) : (s.setCtl c).result = s.result := rfl
@[simp] theorem setCtl_inputs (c : Ctl) : (s.setCtl c).inputs = s.inputs := rfl

/-! `State.setRState`. -/

@[simp] theorem setRState_cfg (m : RState) : (s.setRState m).cfg = s.cfg := rfl
@[simp] theorem setRState_iv (m : RState) : (s.setRState m).iv = s.iv := rfl
@[simp] theorem setRState_ov (m : RState) : (s.setRState m).ov = s.ov := rfl
@[simp] theorem setRState_rstate (m : RState) : (s.setRState m).rstate = m := rfl
@[simp] theorem setRState_fill (m : RState) : (s.setRState m).fill = s.fill := rfl
@[simp] theorem setRState_updated (m : RState) : (s.setRState m).updated = s.updated := rfl
@[simp] theorem setRState_enabled (m : RState) : (s.setRState m).enabled = s.enabled := rfl
@[simp] theorem setRState_lastSend (m : RState) : (s.setRState m).lastSend = s.lastSend := rfl
@[simp] theorem setRState_interval (m : RState) : (s.setRState m).interval = s.interval := rfl
@[simp] theorem setRState_tpl (m : RState) : (s.setRState m).tpl = s.tpl := rfl
@[simp] theorem setRState_ti (m : RState) : (s.setRState m).ti = s.ti := rfl
@[simp] theorem setRState_cur (m : RState) : (s.setRState m).cur = s.cur := rfl
@[simp] theorem setRState_val (m : RState) : (s.setRState m).val = s.val := rfl
@[simp] theorem setRState_now (m : RState) : (s.setRState m).now = s.now := rfl
@[simp] theorem setRState_rxq (m : RState) : (s.setRState m).rxq = s.rxq := rfl
@[simp] theorem setRState_txs (m : RState) : (s.setRState m).txs = s.txs := rfl
@[simp] theorem setRState_clk (m : RState) : (s.setRState m).clk = s.clk := rfl
@[simp] theorem setRState_ctl (m : RState) : (s.setRState m).ctl = s.ctl := rfl
@[simp] theorem setRState_result (m : RState) : (s.setRState m).result = s.result := rfl
@[simp] theorem setRState_inputs (m : RState) : (s.setRState m).inputs = s.inputs := rfl

/-! `State.setResult`. -/

@[simp] theorem setResult_cfg (r : HostResult) : (s.setResult r).cfg = s.cfg := rfl
@[simp] theorem setResult_iv (r : HostResult) : (s.setResult r).iv = s.iv := rfl
@[simp] theorem setResult_ov (r : HostResult) : (s.setResult r).ov = s.ov := rfl
@[simp] theorem setResult_rstate (r : HostResult) : (s.setResult r).rstate = s.rstate := rfl
@[simp] theorem setResult_fill (r : HostResult) : (s.setResult r).fill = s.fill := rfl
@[simp] theorem setResult_updated (r : HostResult) : (s.setResult r).updated = s.updated := rfl
@[simp] theorem setResult_enabled (r : HostResult) : (s.setResult r).enabled = s.enabled := rfl
@[simp] theorem setResult_lastSend (r : HostResult) : (s.setResult r).lastSend = s.lastSend := rfl
@[simp] theorem setResult_interval (r : HostResult) : (s.setResult r).interval = s.interval := rfl
@[simp] theorem setResult_tpl (r : HostResult) : (s.setResult r).tpl = s.tpl := rfl
@[simp] theorem setResult_ti (r : HostResult) : (s.setResult r).ti = s.ti := rfl
@[simp] theorem setResult_cur (r : HostResult) : (s.setResult r).cur = s.cur := rfl
@[simp] theorem setResult_val (r : HostResult) : (s.setResult r).val = s.val := rfl
@[simp] theorem setResult_now (r : HostResult) : (s.setResult r).now = s.now := rfl
@[simp] theorem setResult_rxq (r : HostResult) : (s.setResult r).rxq = s.rxq := rfl
@[simp] theorem setResult_txs (r : HostResult) : (s.setResult r).txs = s.txs := rfl
@[simp] theorem setResult_clk (r : HostResult) : (s.setResult r).clk = s.clk := rfl
@[simp] theorem setResult_ctl (r : HostResult) : (s.setResult r).ctl = s.ctl := rfl
@[simp] theorem setResult_result (r : HostResult) : (s.setResult r).result = some r := rfl
@[simp] theorem setResult_inputs (r : HostResult) : (s.setResult r).inputs = s.inputs := rfl

/-! `State.setInputs`. -/

@[simp] theorem setInputs_cfg (l : List Input) : (s.setInputs l).cfg = s.cfg := rfl
@[simp] theorem setInputs_iv (l : List Input) : (s.setInputs l).iv = s.iv := rfl
@[simp] theorem setInputs_ov (l : List Input) : (s.setInputs l).ov = s.ov := rfl
@[simp] theorem setInputs_rstate (l : List Input) : (s.setInputs l).rstate = s.rstate := rfl
@[simp] theorem setInputs_fill (l : List Input) : (s.setInputs l).fill = s.fill := rfl
@[simp] theorem setInputs_updated (l : List Input) : (s.setInputs l).updated = s.updated := rfl
@[simp] theorem setInputs_enabled (l : List Input) : (s.setInputs l).enabled = s.enabled := rfl
@[simp] theorem setInputs_lastSend (l : List Input) : (s.setInputs l).lastSend = s.lastSend := rfl
@[simp] theorem setInputs_interval (l : List Input) : (s.setInputs l).interval = s.interval := rfl
@[simp] theorem setInputs_tpl (l : List Input) : (s.setInputs l).tpl = s.tpl := rfl
@[simp] theorem setInputs_ti (l : List Input) : (s.setInputs l).ti = s.ti := rfl
@[simp] theorem setInputs_cur (l : List Input) : (s.setInputs l).cur = s.cur := rfl
@[simp] theorem setInputs_val (l : List Input) : (s.setInputs l).val = s.val := rfl
@[simp] theorem setInputs_now (l : List Input) : (s.setInputs l).now = s.now := rfl
@[simp] theorem setInputs_rxq (l : List Input) : (s.setInputs l).rxq = s.rxq := rfl
@[simp] theorem setInputs_txs (l : List Input) : (s.setInputs l).txs = s.txs := rfl
@[simp] theorem setInputs_clk (l : List Input) : (s.setInputs l).clk = s.clk := rfl
@[simp] theorem setInputs_ctl (l : List Input) : (s.setInputs l).ctl = s.ctl := rfl
@[simp] theorem setInputs_result (l : List Input) : (s.setInputs l).result = s.result := rfl
@[simp] theorem setInputs_inputs (l : List Input) : (s.setInputs l).inputs = l := rfl

/-! `State.scanStart`. -/

@[simp] theorem scanStart_cfg : (s.scanStart).cfg = s.cfg := rfl
@[simp] theorem scanStart_iv : (s.scanStart).iv = s.iv := rfl
@[simp] theorem scanStart_ov : (s.scanStart).ov = s.ov := rfl
@[simp] theorem scanStart_rstate : (s.scanStart).rstate = s.rstate := rfl
@[simp] theorem scanStart_fill : (s.scanStart).fill = s.fill := rfl
@[simp] theorem scanStart_updated : (s.scanStart).updated = s.updated := rfl
@[simp] theorem scanStart_enabled : (s.scanStart).enabled = s.enabled := rfl
@[simp] theorem scanStart_lastSend : (s.scanStart).lastSend = s.lastSend := rfl
@[simp] theorem scanStart_interval : (s.scanStart).interval = s.interval := rfl
@[simp] theorem scanStart_tpl : (s.scanStart).tpl = s.tpl := rfl
@[simp] theorem scanStart_ti : (s.scanStart).ti = 0 := rfl
@[simp] theorem scanStart_cur : (s.scanStart).cur = 0 := rfl
@[simp] theorem scanStart_val : (s.scanStart).val = s.val := rfl
@[simp] theorem scanStart_now : (s.scanStart).now = s.now := rfl
@[simp] theorem scanStart_rxq : (s.scanStart).rxq = s.rxq := rfl
@[simp] theorem scanStart_txs : (s.scanStart).txs = s.txs := rfl
@[simp] theorem scanStart_clk : (s.scanStart).clk = s.clk := rfl
@[simp] theorem scanStart_ctl : (s.scanStart).ctl = s.ctl := rfl
@[simp] theorem scanStart_result : (s.scanStart).result = s.result := rfl
@[simp] theorem scanStart_inputs : (s.scanStart).inputs = s.inputs := rfl

/-! `State.tiAdvance`. -/

@[simp] theorem tiAdvance_cfg (n : Nat) : (s.tiAdvance n).cfg = s.cfg := rfl
@[simp] theorem tiAdvance_iv (n : Nat) : (s.tiAdvance n).iv = s.iv := rfl
@[simp] theorem tiAdvance_ov (n : Nat) : (s.tiAdvance n).ov = s.ov := rfl
@[simp] theorem tiAdvance_rstate (n : Nat) : (s.tiAdvance n).rstate = s.rstate := rfl
@[simp] theorem tiAdvance_fill (n : Nat) : (s.tiAdvance n).fill = s.fill := rfl
@[simp] theorem tiAdvance_updated (n : Nat) : (s.tiAdvance n).updated = s.updated := rfl
@[simp] theorem tiAdvance_enabled (n : Nat) : (s.tiAdvance n).enabled = s.enabled := rfl
@[simp] theorem tiAdvance_lastSend (n : Nat) : (s.tiAdvance n).lastSend = s.lastSend := rfl
@[simp] theorem tiAdvance_interval (n : Nat) : (s.tiAdvance n).interval = s.interval := rfl
@[simp] theorem tiAdvance_tpl (n : Nat) : (s.tiAdvance n).tpl = s.tpl := rfl
@[simp] theorem tiAdvance_ti (n : Nat) : (s.tiAdvance n).ti = s.ti + n := rfl
@[simp] theorem tiAdvance_cur (n : Nat) : (s.tiAdvance n).cur = s.cur := rfl
@[simp] theorem tiAdvance_val (n : Nat) : (s.tiAdvance n).val = s.val := rfl
@[simp] theorem tiAdvance_now (n : Nat) : (s.tiAdvance n).now = s.now := rfl
@[simp] theorem tiAdvance_rxq (n : Nat) : (s.tiAdvance n).rxq = s.rxq := rfl
@[simp] theorem tiAdvance_txs (n : Nat) : (s.tiAdvance n).txs = s.txs := rfl
@[simp] theorem tiAdvance_clk (n : Nat) : (s.tiAdvance n).clk = s.clk := rfl
@[simp] theorem tiAdvance_ctl (n : Nat) : (s.tiAdvance n).ctl = s.ctl := rfl
@[simp] theorem tiAdvance_result (n : Nat) : (s.tiAdvance n).result = s.result := rfl
@[simp] theorem tiAdvance_inputs (n : Nat) : (s.tiAdvance n).inputs = s.inputs := rfl

/-! `State.clearVal`. -/

@[simp] theorem clearVal_cfg : (s.clearVal).cfg = s.cfg := rfl
@[simp] theorem clearVal_iv : (s.clearVal).iv = s.iv := rfl
@[simp] theorem clearVal_ov : (s.clearVal).ov = s.ov := rfl
@[simp] theorem clearVal_rstate : (s.clearVal).rstate = s.rstate := rfl
@[simp] theorem clearVal_fill : (s.clearVal).fill = s.fill := rfl
@[simp] theorem clearVal_updated : (s.clearVal).updated = s.updated := rfl
@[simp] theorem clearVal_enabled : (s.clearVal).enabled = s.enabled := rfl
@[simp] theorem clearVal_lastSend : (s.clearVal).lastSend = s.lastSend := rfl
@[simp] theorem clearVal_interval : (s.clearVal).interval = s.interval := rfl
@[simp] theorem clearVal_tpl : (s.clearVal).tpl = s.tpl := rfl
@[simp] theorem clearVal_ti : (s.clearVal).ti = s.ti := rfl
@[simp] theorem clearVal_cur : (s.clearVal).cur = s.cur := rfl
@[simp] theorem clearVal_val : (s.clearVal).val = 0 := rfl
@[simp] theorem clearVal_now : (s.clearVal).now = s.now := rfl
@[simp] theorem clearVal_rxq : (s.clearVal).rxq = s.rxq := rfl
@[simp] theorem clearVal_txs : (s.clearVal).txs = s.txs := rfl
@[simp] theorem clearVal_clk : (s.clearVal).clk = s.clk := rfl
@[simp] theorem clearVal_ctl : (s.clearVal).ctl = s.ctl := rfl
@[simp] theorem clearVal_result : (s.clearVal).result = s.result := rfl
@[simp] theorem clearVal_inputs : (s.clearVal).inputs = s.inputs := rfl

/-! `State.shiftByte`. -/

@[simp] theorem shiftByte_cfg (x : Byte) : (s.shiftByte x).cfg = s.cfg := rfl
@[simp] theorem shiftByte_iv (x : Byte) : (s.shiftByte x).iv = s.iv := rfl
@[simp] theorem shiftByte_ov (x : Byte) : (s.shiftByte x).ov = s.ov := rfl
@[simp] theorem shiftByte_rstate (x : Byte) : (s.shiftByte x).rstate = s.rstate := rfl
@[simp] theorem shiftByte_fill (x : Byte) : (s.shiftByte x).fill = s.fill := rfl
@[simp] theorem shiftByte_updated (x : Byte) : (s.shiftByte x).updated = s.updated := rfl
@[simp] theorem shiftByte_enabled (x : Byte) : (s.shiftByte x).enabled = s.enabled := rfl
@[simp] theorem shiftByte_lastSend (x : Byte) : (s.shiftByte x).lastSend = s.lastSend := rfl
@[simp] theorem shiftByte_interval (x : Byte) : (s.shiftByte x).interval = s.interval := rfl
@[simp] theorem shiftByte_tpl (x : Byte) : (s.shiftByte x).tpl = s.tpl := rfl
@[simp] theorem shiftByte_ti (x : Byte) : (s.shiftByte x).ti = s.ti := rfl
@[simp] theorem shiftByte_cur (x : Byte) : (s.shiftByte x).cur = s.cur := rfl
@[simp] theorem shiftByte_val (x : Byte) : (s.shiftByte x).val = shiftIn s.val x := rfl
@[simp] theorem shiftByte_now (x : Byte) : (s.shiftByte x).now = s.now := rfl
@[simp] theorem shiftByte_rxq (x : Byte) : (s.shiftByte x).rxq = s.rxq.drop 1 := rfl
@[simp] theorem shiftByte_txs (x : Byte) : (s.shiftByte x).txs = s.txs := rfl
@[simp] theorem shiftByte_clk (x : Byte) : (s.shiftByte x).clk = s.clk := rfl
@[simp] theorem shiftByte_ctl (x : Byte) : (s.shiftByte x).ctl = s.ctl := rfl
@[simp] theorem shiftByte_result (x : Byte) : (s.shiftByte x).result = s.result := rfl
@[simp] theorem shiftByte_inputs (x : Byte) : (s.shiftByte x).inputs = s.inputs := rfl

/-! `State.takeFlag`. -/

@[simp] theorem takeFlag_cfg : (s.takeFlag).cfg = s.cfg := rfl
@[simp] theorem takeFlag_iv : (s.takeFlag).iv = s.iv := rfl
@[simp] theorem takeFlag_ov : (s.takeFlag).ov = s.ov := rfl
@[simp] theorem takeFlag_rstate : (s.takeFlag).rstate = s.rstate := rfl
@[simp] theorem takeFlag_fill : (s.takeFlag).fill = s.fill := rfl
@[simp] theorem takeFlag_updated : (s.takeFlag).updated = false := rfl
@[simp] theorem takeFlag_enabled : (s.takeFlag).enabled = s.enabled := rfl
@[simp] theorem takeFlag_lastSend : (s.takeFlag).lastSend = s.lastSend := rfl
@[simp] theorem takeFlag_interval : (s.takeFlag).interval = s.interval := rfl
@[simp] theorem takeFlag_tpl : (s.takeFlag).tpl = s.tpl := rfl
@[simp] theorem takeFlag_ti : (s.takeFlag).ti = s.ti := rfl
@[simp] theorem takeFlag_cur : (s.takeFlag).cur = s.cur := rfl
@[simp] theorem takeFlag_val : (s.takeFlag).val = s.val := rfl
@[simp] theorem takeFlag_now : (s.takeFlag).now = s.now := rfl
@[simp] theorem takeFlag_rxq : (s.takeFlag).rxq = s.rxq := rfl
@[simp] theorem takeFlag_txs : (s.takeFlag).txs = s.txs := rfl
@[simp] theorem takeFlag_clk : (s.takeFlag).clk = s.clk := rfl
@[simp] theorem takeFlag_ctl : (s.takeFlag).ctl = s.ctl := rfl
@[simp] theorem takeFlag_result : (s.takeFlag).result = some (.bit s.updated) := rfl
@[simp] theorem takeFlag_inputs : (s.takeFlag).inputs = s.inputs := rfl

/-! `State.deliver`. -/

@[simp] theorem deliver_cfg (l : List Byte) : (s.deliver l).cfg = s.cfg := rfl
@[simp] theorem deliver_iv (l : List Byte) : (s.deliver l).iv = s.iv := rfl
@[simp] theorem deliver_ov (l : List Byte) : (s.deliver l).ov = s.ov := rfl
@[simp] theorem deliver_rstate (l : List Byte) : (s.deliver l).rstate = s.rstate := rfl
@[simp] theorem deliver_fill (l : List Byte) : (s.deliver l).fill = s.fill := rfl
@[simp] theorem deliver_updated (l : List Byte) : (s.deliver l).updated = s.updated := rfl
@[simp] theorem deliver_enabled (l : List Byte) : (s.deliver l).enabled = s.enabled := rfl
@[simp] theorem deliver_lastSend (l : List Byte) : (s.deliver l).lastSend = s.lastSend := rfl
@[simp] theorem deliver_interval (l : List Byte) : (s.deliver l).interval = s.interval := rfl
@[simp] theorem deliver_tpl (l : List Byte) : (s.deliver l).tpl = s.tpl := rfl
@[simp] theorem deliver_ti (l : List Byte) : (s.deliver l).ti = s.ti := rfl
@[simp] theorem deliver_cur (l : List Byte) : (s.deliver l).cur = s.cur := rfl
@[simp] theorem deliver_val (l : List Byte) : (s.deliver l).val = s.val := rfl
@[simp] theorem deliver_now (l : List Byte) : (s.deliver l).now = s.now := rfl
@[simp] theorem deliver_rxq (l : List Byte) : (s.deliver l).rxq = s.rxq ++ l := rfl
@[simp] theorem deliver_txs (l : List Byte) : (s.deliver l).txs = s.txs := rfl
@[simp] theorem deliver_clk (l : List Byte) : (s.deliver l).clk = s.clk := rfl
@[simp] theorem deliver_ctl (l : List Byte) : (s.deliver l).ctl = s.ctl := rfl
@[simp] theorem deliver_result (l : List Byte) : (s.deliver l).result = s.result := rfl
@[simp] theorem deliver_inputs (l : List Byte) : (s.deliver l).inputs = s.inputs := rfl

/-! `State.rxAppend`. -/

@[simp] theorem rxAppend_cfg (b : Byte) : (s.rxAppend b).cfg = s.cfg := by
  unfold State.rxAppend; split <;> rfl
@[simp] theorem rxAppend_iv (b : Byte) : (s.rxAppend b).iv = s.iv := by
  unfold State.rxAppend; split <;> rfl
@[simp] theorem rxAppend_ov (b : Byte) : (s.rxAppend b).ov = s.ov := by
  unfold State.rxAppend; split <;> rfl
@[simp] theorem rxAppend_rstate (b : Byte) : (s.rxAppend b).rstate = s.rstate := by
  unfold State.rxAppend; split <;> rfl
@[simp] theorem rxAppend_fill (b : Byte) : (s.rxAppend b).fill = s.fill := by
  unfold State.rxAppend; split <;> rfl
@[simp] theorem rxAppend_updated (b : Byte) : (s.rxAppend b).updated = s.updated := by
  unfold State.rxAppend; split <;> rfl
@[simp] theorem rxAppend_enabled (b : Byte) : (s.rxAppend b).enabled = s.enabled := by
  unfold State.rxAppend; split <;> rfl
@[simp] theorem rxAppend_lastSend (b : Byte) : (s.rxAppend b).lastSend = s.lastSend := by
  unfold State.rxAppend; split <;> rfl
@[simp] theorem rxAppend_interval (b : Byte) : (s.rxAppend b).interval = s.interval := by
  unfold State.rxAppend; split <;> rfl
@[simp] theorem rxAppend_tpl (b : Byte) : (s.rxAppend b).tpl = s.tpl := by
  unfold State.rxAppend; split <;> rfl
@[simp] theorem rxAppend_ti (b : Byte) : (s.rxAppend b).ti = s.ti := by
  unfold State.rxAppend; split <;> rfl
@[simp] theorem rxAppend_cur (b : Byte) : (s.rxAppend b).cur = s.cur := by
  unfold State.rxAppend; split <;> rfl
@[simp] theorem rxAppend_val (b : Byte) : (s.rxAppend b).val = s.val := by
  unfold State.rxAppend; split <;> rfl
@[simp] theorem rxAppend_now (b : Byte) : (s.rxAppend b).now = s.now := by
  unfold State.rxAppend; split <;> rfl
@[simp] theorem rxAppend_txs (b : Byte) : (s.rxAppend b).txs = s.txs := by
  unfold State.rxAppend; split <;> rfl
@[simp] theorem rxAppend_clk (b : Byte) : (s.rxAppend b).clk = s.clk := by
  unfold State.rxAppend; split <;> rfl
@[simp] theorem rxAppend_ctl (b : Byte) : (s.rxAppend b).ctl = s.ctl := by
  unfold State.rxAppend; split <;> rfl
@[simp] theorem rxAppend_result (b : Byte) : (s.rxAppend b).result = s.result := by
  unfold State.rxAppend; split <;> rfl
@[simp] theorem rxAppend_inputs (b : Byte) : (s.rxAppend b).inputs = s.inputs := by
  unfold State.rxAppend; split <;> rfl

/-! `State.render`. -/

@[simp] theorem render_cfg (conv : Word → Int) : (s.render conv).cfg = s.cfg := by
  unfold State.render; split <;> rfl
@[simp] theorem render_iv (conv : Word → Int) : (s.render conv).iv = s.iv := by
  unfold State.render; split <;> rfl
@[simp] theorem render_ov (conv : Word → Int) : (s.render conv).ov = s.ov := by
  unfold State.render; split <;> rfl
@[simp] theorem render_rstate (conv : Word → Int) : (s.render conv).rstate = s.rstate := by
  unfold State.render; split <;> rfl
@[simp] theorem render_fill (conv : Word → Int) : (s.render conv).fill = s.fill := by
  unfold State.render; split <;> rfl
@[simp] theorem render_updated (conv : Word → Int) : (s.render conv).updated = s.updated := by
  unfold State.render; split <;> rfl
@[simp] theorem render_enabled (conv : Word → Int) : (s.render conv).enabled = s.enabled := by
  unfold State.render; split <;> rfl
@[simp] theorem render_lastSend (conv : Word → Int) : (s.render conv).lastSend = s.lastSend := by
  unfold State.render; split <;> rfl
@[simp] theorem render_interval (conv : Word → Int) : (s.render conv).interval = s.interval := by
  unfold State.render; split <;> rfl
@[simp] theorem render_tpl (conv : Word → Int) : (s.render conv).tpl = s.tpl := by
  unfold State.render; split <;> rfl
@[simp] theorem render_ti (conv : Word → Int) : (s.render conv).ti = s.ti := by
  unfold State.render; split <;> rfl
@[simp] theorem render_val (conv : Word → Int) : (s.render conv).val = s.val := by
  unfold State.render; split <;> rfl
@[simp] theorem render_now (conv : Word → Int) : (s.render conv).now = s.now := by
  unfold State.render; split <;> rfl
@[simp] theorem render_rxq (conv : Word → Int) : (s.render conv).rxq = s.rxq := by
  unfold State.render; split <;> rfl
@[simp] theorem render_clk (conv : Word → Int) : (s.render conv).clk = s.clk := by
  unfold State.render; split <;> rfl
@[simp] theorem render_ctl (conv : Word → Int) : (s.render conv).ctl = s.ctl := by
  unfold State.render; split <;> rfl
@[simp] theorem render_result (conv : Word → Int) : (s.render conv).result = s.result := by
  unfold State.render; split <;> rfl
@[simp] theorem render_inputs (conv : Word → Int) : (s.render conv).inputs = s.inputs := by
  unfold State.render; split <;> rfl

/-! `State.storeWord`. -/

@[simp] theorem storeWord_cfg (v : Word) : (s.storeWord v).cfg = s.cfg := by
  unfold State.storeWord; dsimp only; split <;> rfl
@[simp] theorem storeWord_iv (v : Word) : (s.storeWord v).iv = s.iv.set s.fill v := by
  unfold State.storeWord; dsimp only; split <;> rfl
@[simp] theorem storeWord_ov (v : Word) : (s.storeWord v).ov = s.ov := by
  unfold State.storeWord; dsimp only; split <;> rfl
@[simp] theorem storeWord_rstate (v : Word) :
    (s.storeWord v).rstate = if nextFill s.iv.length s.fill = 0 then .awaitingStart else s.rstate := by
  unfold State.storeWord; dsimp only; split <;> simp_all
@[simp] theorem storeWord_fill (v : Word) : (s.storeWord v).fill = nextFill s.iv.length s.fill := by
  unfold State.storeWord; dsimp only; split <;> rfl
@[simp] theorem storeWord_updated (v : Word) :
    (s.storeWord v).updated = (s.updated || decide (nextFill s.iv.length s.fill = 0)) := by
  unfold State.storeWord; dsimp only; split <;> simp_all
@[simp] theorem storeWord_enabled (v : Word) : (s.storeWord v).enabled = s.enabled := by
  unfold State.storeWord; dsimp only; split <;> rfl
@[simp] theorem storeWord_lastSend (v : Word) : (s.storeWord v).lastSend = s.lastSend := by
  unfold State.storeWord; dsimp only; split <;> rfl
@[simp] theorem storeWord_interval (v : Word) : (s.storeWord v).interval = s.interval := by
  unfold State.storeWord; dsimp only; split <;> rfl
@[simp] theorem storeWord_tpl (v : Word) : (s.storeWord v).tpl = s.tpl := by
  unfold State.storeWord; dsimp only; split <;> rfl
@[simp] theorem storeWord_ti (v : Word) : (s.storeWord v).ti = s.ti := by
  unfold State.storeWord; dsimp only; split <;> rfl
@[simp] theorem storeWord_cur (v : Word) : (s.storeWord v).cur = s.cur := by
  unfold State.storeWord; dsimp only; split <;> rfl
@[simp] theorem storeWord_val (v : Word) : (s.storeWord v).val = v := by
  unfold State.storeWord; dsimp only; split <;> rfl
@[simp] theorem storeWord_now (v : Word) : (s.storeWord v).now = s.now := by
  unfold State.storeWord; dsimp only; split <;> rfl
@[simp] theorem storeWord_rxq (v : Word) : (s.storeWord v).rxq = s.rxq := by
  unfold State.storeWord; dsimp only; split <;> rfl
@[simp] theorem storeWord_txs (v : Word) : (s.storeWord v).txs = s.txs := by
  unfold State.storeWord; dsimp only; split <;> rfl
@[simp] theorem storeWord_clk (v : Word) : (s.storeWord v).clk = s.clk := by
  unfold State.storeWord; dsimp only; split <;> rfl
@[simp] theorem storeWord_ctl (v : Word) :
    (s.storeWord v).ctl = if nextFill s.iv.length s.fill = 0 then .gate else s.ctl := by
  unfold State.storeWord; dsimp only; split <;> simp_all
@[simp] theorem storeWord_result (v : Word) : (s.storeWord v).result = s.result := by
  unfold State.storeWord; dsimp only; split <;> rfl
@[simp] theorem storeWord_inputs (v : Word) : (s.storeWord v).inputs = s.inputs := by
  unfold State.storeWord; dsimp only; split <;> rfl

/-! `State.arrive`: the source is all that arrivals touch. -/

theorem arrive_of_append {α : Type} (f : State → α) (h : ∀ (s : State) (b : Byte), f (s.rxAppend b) = f s) :
    ∀ (l : List Byte) (s : State), f (s.arrive l) = f s
  | [], _ => rfl
  | b :: l, s => (arrive_of_append f h l (s.rxAppend b)).trans (h s b)

@[simp] theorem arrive_cfg (l : List Byte) : (s.arrive l).cfg = s.cfg :=
  arrive_of_append (fun t => t.cfg) rxAppend_cfg l s
@[simp] theorem arrive_iv (l : List Byte) : (s.arrive l).iv = s.iv :=
  arrive_of_append (fun t => t.iv) rxAppend_iv l s
@[simp] theorem arrive_ov (l : List Byte) : (s.arrive l).ov = s.ov :=
  arrive_of_append (fun t => t.ov) rxAppend_ov l s
@[simp] theorem arrive_rstate (l : List Byte) : (s.arrive l).rstate = s.rstate :=
  arrive_of_append (fun t => t.rstate) rxAppend_rstate l s
@[simp] theorem arrive_fill (l : List Byte) : (s.arrive l).fill = s.fill :=
  arrive_of_append (fun t => t.fill) rxAppend_fill l s
@[simp] theorem arrive_updated (l : List Byte) : (s.arrive l).updated = s.updated :=
  arrive_of_append (fun t => t.updated) rxAppend_updated l s
@[simp] theorem arrive_enabled (l : List Byte) : (s.arrive l).enabled = s.enabled :=
  arrive_of_append (fun t => t.enabled) rxAppend_enabled l s
@[simp] theorem arrive_lastSend (l : List Byte) : (s.arrive l).lastSend = s.lastSend :=
  arrive_of_append (fun t => t.lastSend) rxAppend_lastSend l s
@[simp] theorem arrive_interval (l : List Byte) : (s.arrive l).interval = s.interval :=
  arrive_of_append (fun t => t.interval) rxAppend_interval l s
@[simp] theorem arrive_tpl (l : List Byte) : (s.arrive l).tpl = s.tpl :=
  arrive_of_append (fun t => t.tpl) rxAppend_tpl l s
@[simp] theorem arrive_ti (l : List Byte) : (s.arrive l).ti = s.ti :=
  arrive_of_append (fun t => t.ti) rxAppend_ti l s
@[simp] theorem arrive_cur (l : List Byte) : (s.arrive l).cur = s.cur :=
  arrive_of_append (fun t => t.cur) rxAppend_cur l s
@[simp] theorem arrive_val (l : List Byte) : (s.arrive l).val = s.val :=
  arrive_of_append (fun t => t.val) rxAppend_val l s
@[simp] theorem arrive_now (l : List Byte) : (s.arrive l).now = s.now :=
  arrive_of_append (fun t => t.now) rxAppend_now l s
@[simp] theorem arrive_txs (l : List Byte) : (s.arrive l).txs = s.txs :=
  arrive_of_append (fun t => t.txs) rxAppend_txs l s
@[simp] theorem arrive_clk (l : List Byte) : (s.arrive l).clk = s.clk :=
  arrive_of_append (fun t => t.clk) rxAppend_clk l s
@[simp] theorem arrive_ctl (l : List Byte) : (s.arrive l).ctl = s.ctl :=
  arrive_of_append (fun t => t.ctl) rxAppend_ctl l s
@[simp] theorem arrive_result (l : List Byte) : (s.arrive l).result = s.result :=
  arrive_of_append (fun t => t.result) rxAppend_result l s
@[simp] theorem arrive_inputs (l : List Byte) : (s.arrive l).inputs = s.inputs :=
  arrive_of_append (fun t => t.inputs) rxAppend_inputs l s

end Sys2Proof.Machine
end

