-- ==== Sys2Proof/Laws/Ops.lean ====
section
/-! SUPPORT. What sequencing, assembly, decimal text, the bounded fetch and the completion rule can do, each said once. -/

namespace Sys2Proof.Machine

/-! Sequencing. -/

@[simp] theorem andThen_next (s : State) (f : State → Out) : andThen (.next s) f = f s := rfl

@[simp] theorem andThen_fault (r : Fault) (f : State → Out) : andThen (.fault r) f = .fault r := rfl

@[simp] theorem andThen_refused (r : Refusal) (f : State → Out) : andThen (.refused r) f = .refused r := rfl

theorem andThen_assoc (o : Out) (f g : State → Out) :
    andThen (andThen o f) g = andThen o fun t => andThen (f t) g := by
  cases o <;> rfl

theorem andThen_eq_next {o : Out} {f : State → Out} {t : State} :
    andThen o f = .next t ↔ ∃ u, o = .next u ∧ f u = .next t := by
  cases o <;> simp [andThen]

@[simp] theorem returnTo_next (c : Ctl) (s : State) : returnTo c (.next s) = .next (s.setCtl c) := rfl

@[simp] theorem returnTo_refused (c : Ctl) (r : Refusal) : returnTo c (.refused r) = .refused r := rfl

theorem returnTo_eq_next {c : Ctl} {o : Out} {t : State} :
    returnTo c o = .next t ↔ ∃ u, o = .next u ∧ u.setCtl c = t := by
  unfold returnTo
  rw [andThen_eq_next]
  simp

/-! Assembly and completion. -/

/-- R127: the four shifts and ORs are a concatenation. -/
theorem assemble_eq_concat (a b c d : Byte) :
    assemble a b c d = (a ++ b ++ c ++ d : BitVec (8 + 8 + 8 + 8)) := by
  apply BitVec.eq_of_getLsbD_eq
  intro i hi
  simp only [assemble, shiftIn, BitVec.getLsbD_or, BitVec.getLsbD_shiftLeft, BitVec.getLsbD_append,
    BitVec.getLsbD_setWidth, BitVec.zeroExtend]
  have : i < 32 := hi
  interval_cases i <;> simp

theorem nextFill_eq {n f : Nat} (h : f < n) : nextFill n f = if f + 1 = n then 0 else f + 1 := by
  unfold nextFill
  split
  · simp_all
  · exact Nat.mod_eq_of_lt (by omega)

theorem nextFill_lt {n f : Nat} (h : 0 < n) : nextFill n f < n := Nat.mod_lt _ h

/-- What RX.WORD does to the state when FILL is in range (R126, R128, R129). -/
theorem storeWord_eq (s : State) (v : Word) (h : s.fill < s.iv.length) :
    s.storeWord v =
      if s.fill + 1 = s.iv.length then
        { s with val := v, iv := s.iv.set s.fill v, fill := 0,
                 updated := true, rstate := .awaitingStart, ctl := .gate }
      else { s with val := v, iv := s.iv.set s.fill v, fill := s.fill + 1 } := by
  unfold State.storeWord
  simp only [nextFill_eq h]
  split <;> simp_all

/-! The bounded fetch (R153). -/

theorem render_of_element {s : State} {w : Word} (conv : Word → Int) (h : s.ov[s.cur]? = some w) :
    s.render conv = { s with cur := s.cur + 1, txs := s.txs ++ dec (conv w) } := by
  simp [State.render, h]

theorem render_of_exhausted {s : State} (conv : Word → Int) (h : s.ov.length ≤ s.cur) :
    s.render conv = { s with txs := s.txs ++ [charZero] } := by
  simp [State.render, List.getElem?_eq_none h, State.txWrite]

/-- RENDER in terms of the elements not yet rendered. -/
theorem render_eq (s : State) (conv : Word → Int) :
    s.render conv = { s with cur := if s.cur < s.ov.length then s.cur + 1 else s.cur
                             txs := s.txs ++ fieldText conv (s.ov.drop s.cur) } := by
  by_cases h : s.cur < s.ov.length
  · rw [render_of_element conv (List.getElem?_eq_getElem h), List.drop_eq_getElem_cons h]
    simp [fieldText, h]
  · rw [render_of_exhausted conv (by omega), List.drop_eq_nil_of_le (by omega)]
    simp [fieldText, h]

/-! Decimal text (R152). -/

theorem decDigits_fuel : ∀ (f n : Nat), n ≤ f → decDigits f n = decDigits n n := by
  intro f
  induction f using Nat.strong_induction_on with
  | _ f ih =>
    intro n hn
    rcases Nat.lt_or_ge n 10 with h | h
    · rcases f with _ | f
      · obtain rfl : n = 0 := by omega
        rfl
      · rcases n with _ | n
        · simp [decDigits]
        · simp [decDigits, h]
    · obtain ⟨f, rfl⟩ : ∃ k, f = k + 1 := ⟨f - 1, by omega⟩
      obtain ⟨n, rfl⟩ : ∃ k, n = k + 1 := ⟨n - 1, by omega⟩
      have e1 := ih f (by omega) ((n + 1) / 10) (by omega)
      rcases Nat.lt_or_ge n f with hlt | hge
      · have e2 := ih n (by omega) ((n + 1) / 10) (by omega)
        simp [decDigits, Nat.not_lt.mpr h, e1, e2]
      · obtain rfl : n = f := by omega
        rfl

theorem decNat_of_lt {n : Nat} (h : n < 10) : decNat n = [digitChar n] := by
  unfold decNat
  rcases n with _ | n
  · rfl
  · simp [decDigits, h]

theorem decNat_of_ge {n : Nat} (h : 10 ≤ n) : decNat n = decNat (n / 10) ++ [digitChar (n % 10)] := by
  unfold decNat
  obtain ⟨n, rfl⟩ : ∃ k, n = k + 1 := ⟨n - 1, by omega⟩
  simp only [decDigits, Nat.not_lt.mpr h, if_false]
  rw [decDigits_fuel n _ (by omega)]

/-- A number below `10 ^ (k + 1)` has at most `k + 1` digits. -/
theorem decNat_length_le : ∀ (k n : Nat), n < 10 ^ (k + 1) → (decNat n).length ≤ k + 1 := by
  intro k
  induction k with
  | zero =>
    intro n h
    rw [decNat_of_lt (by omega)]
    simp
  | succ k ih =>
    intro n h
    rcases Nat.lt_or_ge n 10 with h10 | h10
    · rw [decNat_of_lt h10]
      simp
    · rw [decNat_of_ge h10]
      have := ih (n / 10) (by rw [Nat.pow_succ] at h; omega)
      simp
      omega

theorem decNat_ne_nil (n : Nat) : decNat n ≠ [] := by
  rcases Nat.lt_or_ge n 10 with h | h
  · simp [decNat_of_lt h]
  · simp [decNat_of_ge h]

end Sys2Proof.Machine
end

