-- ==== Sys2Proof/Laws/PerInstr.lean ====
section
/-! SUPPORT. The per-instruction family EncodedLength: an instruction's encoding has the length its table row gives
(length_bytes, length_chars; a command or the reset input carries no stream bytes). -/

namespace Sys2Proof.Laws.EncodedLength

/-- Stream bytes of an encoding. -/
def size : Encoding → Nat
  | .wire _ bytes => bytes.length
  | .template chars => chars.length
  | .command _ => 0
  | .resetInput _ _ _ => 0

/-- The length the table gives (R82, R88). -/
def tableLength : Instr → Nat
  | .rxDiscard _ => 1
  | .rxStart => 1
  | .rxWord _ _ _ _ => 4
  | .tLit _ => 1
  | .tL => 2
  | .tU => 2
  | .tD => 2
  | .tI => 2
  | .tRsvd _ => 2
  | .tTrunc => 1
  | .tEol => 0
  | .ul => 3
  | .poll => 0
  | .takeUpdated => 0
  | .setEnabled _ => 0
  | .setTemplate _ => 0
  | .ivRead _ => 0
  | .ovWrite _ _ => 0
  | .ovRead _ => 0
  | .hRsvd => 0
  | .reset _ _ _ => 0
  | .rxCheck => 0
  | .txSend => 0

/-- The family's statement. -/
def Statement (i : Instr) : Prop := ∀ e, encode i = some e → size e = tableLength i

theorem of_encode {i : Instr} {e : Encoding} (h : encode i = some e) (hs : size e = tableLength i) : Statement i := by
  intro e' h'
  obtain rfl : e = e' := Option.some.inj (h.symm.trans h')
  exact hs

theorem rxDiscard (b : Byte) : Statement (.rxDiscard b) := of_encode rfl rfl
theorem rxStart : Statement .rxStart := of_encode rfl rfl
theorem rxWord (a b c d : Byte) : Statement (.rxWord a b c d) := of_encode rfl rfl
theorem tLit (c : Byte) : Statement (.tLit c) := of_encode rfl rfl
theorem tL : Statement .tL := of_encode rfl rfl
theorem tU : Statement .tU := of_encode rfl rfl
theorem tD : Statement .tD := of_encode rfl rfl
theorem tI : Statement .tI := of_encode rfl rfl
theorem tRsvd (t : Byte) : Statement (.tRsvd t) := of_encode rfl rfl
theorem tTrunc : Statement .tTrunc := of_encode rfl rfl
theorem tEol : Statement .tEol := of_encode rfl rfl
theorem ul : Statement .ul := of_encode rfl rfl
theorem poll : Statement .poll := of_encode rfl rfl
theorem takeUpdated : Statement .takeUpdated := of_encode rfl rfl
theorem setEnabled (en : Bool) : Statement (.setEnabled en) := of_encode rfl rfl
theorem setTemplate (str : List Byte) : Statement (.setTemplate str) := of_encode rfl rfl
theorem ivRead (idx : Nat) : Statement (.ivRead idx) := of_encode rfl rfl
theorem ovWrite (idx : Nat) (w : Word) : Statement (.ovWrite idx w) := of_encode rfl rfl
theorem ovRead (idx : Nat) : Statement (.ovRead idx) := of_encode rfl rfl
theorem hRsvd : Statement .hRsvd := of_encode rfl rfl
theorem reset (tpl : List Byte) (interval : Nat) (en : Option Bool) : Statement (.reset tpl interval en) :=
  of_encode rfl rfl
theorem rxCheck : Statement .rxCheck := fun _ h => by simp [encode] at h
theorem txSend : Statement .txSend := fun _ h => by simp [encode] at h

end Sys2Proof.Laws.EncodedLength
end

