-- ==== Sys2Proof/Laws/Receiver.lean ====
section
/-! SUPPORT. What the wire units and the two receive loops can do, each said once. -/

namespace Sys2Proof.Machine

theorem execRxDiscard_of_available (b : Byte) {s : State} {c : Byte} {q : List Byte} (h : s.rxq = c :: q) :
    execRxDiscard b s = .next { s with rxq := q } := by
  simp [execRxDiscard, State.rxAvail, h, State.rxDrop]

theorem execRxStart_of_available {s : State} {c : Byte} {q : List Byte} (h : s.rxq = c :: q) :
    execRxStart s = .next { s with rxq := q, rstate := .receivingData, ctl := .gate } := by
  simp [execRxStart, State.rxAvail, h, State.rxDrop, State.setRState, State.setCtl]

theorem execRxWord_of_available (a b c d : Byte) {s : State} (h : 4 ≤ s.rxq.length) (hn : s.iv ≠ []) :
    execRxWord a b c d s = .next ((s.rxDrop 4).storeWord (assemble a b c d)) := by
  have : ¬ s.rxq.length < 4 := by omega
  simp [execRxWord, State.rxAvail, this, State.nIn, hn]

/-- Everything RX.WORD can answer. -/
theorem execRxWord_cases (a b c d : Byte) (s : State) :
    (s.rxq.length < 4 ∧ execRxWord a b c d s = .fault .emptySource)
      ∨ (s.iv = [] ∧ execRxWord a b c d s = .refused .emptyInputVector)
      ∨ (4 ≤ s.rxq.length ∧ s.iv ≠ []
          ∧ execRxWord a b c d s = .next ((s.rxDrop 4).storeWord (assemble a b c d))) := by
  by_cases h : s.rxq.length < 4
  · exact .inl ⟨h, by simp [execRxWord, State.rxAvail, h]⟩
  by_cases hn : s.iv = []
  · exact .inr (.inl ⟨hn, by simp [execRxWord, State.rxAvail, h, State.nIn, hn]⟩)
  · exact .inr (.inr ⟨by omega, hn, execRxWord_of_available a b c d (by omega) hn⟩)

theorem readInto_of_available (c : Ctl) {s : State} {x : Byte} {q : List Byte} (h : s.rxq = x :: q) :
    readInto c s = .next { s with val := shiftIn s.val x, rxq := q, ctl := c } := by
  simp [readInto, h, State.shiftByte, State.setCtl]

/-- Everything a single read of RX.WORD can answer where a byte is available and the vector is not empty. -/
theorem wordRead_of_available {s : State} {x : Byte} {q : List Byte} (h : s.rxq = x :: q) (hn : s.iv ≠ []) :
    wordRead s = .next (match s.ctl with
      | .wordRead1 => { s with val := shiftIn s.val x, rxq := q, ctl := .wordRead2 }
      | .wordRead2 => { s with val := shiftIn s.val x, rxq := q, ctl := .wordRead3 }
      | .wordRead3 => { s with val := shiftIn s.val x, rxq := q, ctl := .receive }.storeWord (shiftIn s.val x)
      | .idle | .receive | .gate | .send | .sendEnd | .latch =>
        { s with val := shiftIn 0 x, rxq := q, ctl := .wordRead1 }) := by
  have h' : s.clearVal.rxq = x :: q := h
  have hl : s.nIn ≠ 0 := by simpa [State.nIn] using hn
  unfold wordRead
  cases s.ctl <;> simp only [hl, if_false, readInto_of_available _ h, readInto_of_available _ h', andThen_next] <;> rfl

/-- A single read of RX.WORD stops only on an empty source or an empty vector. -/
theorem wordRead_next {s t : State} (h : wordRead s = .next t) : s.rxq ≠ [] := by
  intro e
  have e' : s.clearVal.rxq = [] := e
  unfold wordRead at h
  cases hc : s.ctl <;> simp only [hc, readInto, e, e', andThen_fault] at h <;> first | cases h | skip
  all_goals split at h <;> cases h

/-- AWAIT_LOOP (R122): everything up to the first marker goes; the marker, if any, starts a frame. -/
theorem awaitLoop_eq : ∀ (n : Nat) (s : State), s.rxq.length ≤ n →
    awaitLoop n s = .next
      (if startMarker ∈ s.rxq then
        { s with rxq := (s.rxq.dropWhile (· != startMarker)).drop 1, rstate := .receivingData, ctl := .gate }
       else { s with rxq := [] }) := by
  intro n
  induction n with
  | zero =>
    intro s h
    have hq : s.rxq = [] := List.eq_nil_of_length_eq_zero (by omega)
    simp only [awaitLoop, hq, List.not_mem_nil, if_false]
    rw [← hq]
  | succ n ih =>
    intro s h
    rcases hq : s.rxq with _ | ⟨b, q⟩
    · simp only [awaitLoop, hq, List.not_mem_nil, if_false]
      rw [← hq]
    · by_cases hb : b = startMarker
      · subst hb
        simp [awaitLoop, hq, execRxStart_of_available hq]
      · simp only [awaitLoop, hq, hb, if_false, execRxDiscard_of_available b hq, andThen_next]
        rw [ih _ (by simp [hq] at h; simpa using h)]
        have hne : startMarker ≠ b := fun e => hb e.symm
        simp [hne, hb]

/-- One turn of DATA_LOOP with a whole word available. -/
theorem dataLoop_word {n : Nat} {s : State} {a b c d : Byte} {q : List Byte} (hq : s.rxq = a :: b :: c :: d :: q)
    (hn : s.iv ≠ []) :
    dataLoop (n + 1) s =
      (if ((s.rxDrop 4).storeWord (assemble a b c d)).fill = 0 then .next ((s.rxDrop 4).storeWord (assemble a b c d))
       else dataLoop n ((s.rxDrop 4).storeWord (assemble a b c d))) := by
  have h4 : 4 ≤ s.rxq.length := by simp [hq]
  simp only [dataLoop, hq, execRxWord_of_available a b c d h4 hn, andThen_next]

/-- DATA_LOOP waits for a whole word (R123). -/
theorem dataLoop_short (n : Nat) {s : State} (h : s.rxq.length < 4) : dataLoop n s = .next s := by
  cases n with
  | zero => rfl
  | succ n =>
    rcases hq : s.rxq with _ | ⟨a, _ | ⟨b, _ | ⟨c, _ | ⟨d, q⟩⟩⟩⟩ <;> simp_all [dataLoop]
    omega

/-- Four bytes at the head of a stream as a word (R57). -/
theorem headWord_cons (a b c d : Byte) (q : List Byte) :
    headWord (a :: b :: c :: d :: q) = (a ++ b ++ c ++ d : BitVec (8 + 8 + 8 + 8)) := rfl

theorem exists_four {q : List Byte} (h : 4 ≤ q.length) : ∃ a b c d r, q = a :: b :: c :: d :: r := by
  rcases q with _ | ⟨a, _ | ⟨b, _ | ⟨c, _ | ⟨d, q⟩⟩⟩⟩ <;> simp at h ⊢

/-- DATA_LOOP (R123): the words stored, and where it stops. -/
theorem dataLoop_spec : ∀ (n : Nat) (s : State), s.rxq.length ≤ n → s.rstate = .receivingData →
    s.fill < s.iv.length →
    ∃ t : State, dataLoop n s = .next t ∧
      (let k := min (s.rxq.length / 4) (s.iv.length - s.fill)
       let full := decide (s.fill + k = s.iv.length)
       t = { s with rxq := s.rxq.drop (4 * k), iv := t.iv, val := t.val
                    fill := if full then 0 else s.fill + k
                    updated := s.updated || full
                    rstate := if full then .awaitingStart else .receivingData
                    ctl := if full then .gate else s.ctl }
         ∧ ∀ j : Nat, t.iv[j]? =
             if s.fill ≤ j ∧ j < s.fill + k then some (headWord (s.rxq.drop (4 * (j - s.fill)))) else s.iv[j]?) := by
  intro n
  induction n with
  | zero =>
    intro s h hr hf
    have hq : s.rxq = [] := List.eq_nil_of_length_eq_zero (by omega)
    refine ⟨s, rfl, ?_⟩
    have : s.fill ≠ s.iv.length := by omega
    constructor
    · rcases s; simp_all
    · intro j; simp [hq]
  | succ n ih =>
    intro s h hr hf
    by_cases h4 : s.rxq.length < 4
    · refine ⟨s, dataLoop_short _ h4, ?_⟩
      have hk : min (s.rxq.length / 4) (s.iv.length - s.fill) = 0 := by omega
      have : s.fill ≠ s.iv.length := by omega
      simp only [hk]
      constructor
      · clear ih hk; rcases s; simp_all
      · intro j; rw [if_neg (by omega)]
    · obtain ⟨a, b, c, d, q, hq⟩ := exists_four (Nat.not_lt.mp h4)
      have hn : s.iv ≠ [] := by intro e; simp [e] at hf
      rw [dataLoop_word hq hn]
      have hf' : (s.rxDrop 4).fill < (s.rxDrop 4).iv.length := hf
      rw [storeWord_eq _ _ hf']
      by_cases hw : s.fill + 1 = s.iv.length
      · have hk : min (s.rxq.length / 4) (s.iv.length - s.fill) = 1 := by omega
        simp only [rxDrop_fill, rxDrop_iv, hw, if_true]
        refine ⟨_, rfl, ?_⟩
        simp only [hk]
        constructor
        · simp [hw, State.rxDrop]
        · intro j
          rw [List.getElem?_set, assemble_eq_concat, ← headWord_cons a b c d q, ← hq]
          by_cases hj : s.fill = j
          · subst hj; simp [hf]
          · rw [if_neg hj, if_neg (by omega)]
      · simp only [rxDrop_fill, rxDrop_iv, hw, if_false]
        set u : State := { s.rxDrop 4 with val := assemble a b c d, iv := s.iv.set s.fill (assemble a b c d), fill := s.fill + 1 } with hu
        have hfu : ¬ u.fill = 0 := by simp [hu]
        rw [if_neg hfu]
        have e : u.rxq = q := by simp [hu, hq]
        obtain ⟨t, ht, hs, hv⟩ := ih u (by rw [e]; rw [hq] at h; simp at h; omega) (by simpa [hu] using hr) (by simp [hu]; omega)
        refine ⟨t, ht, ?_⟩
        have hl : s.rxq.length = q.length + 4 := by simp [hq]
        have hk : min (s.rxq.length / 4) (s.iv.length - s.fill) = min (u.rxq.length / 4) (u.iv.length - u.fill) + 1 := by
          rw [e, hl]; simp [hu]; omega
        have hfs : u.fill = s.fill + 1 := rfl
        have hil : u.iv.length = s.iv.length := by simp [hu]
        generalize hkk : min (u.rxq.length / 4) (u.iv.length - u.fill) = k at *
        simp only [hk]
        constructor
        · rw [hs]
          have h1 : u.fill + k = s.fill + (k + 1) := by omega
          have h2 : q.drop (4 * k) = s.rxq.drop (4 * (k + 1)) := by
            rw [hq, show 4 * (k + 1) = 4 * k + 1 + 1 + 1 + 1 by ring]; simp
          simp only [e, h1, h2, hil]
          simp [hu, State.rxDrop]
        · intro j
          rw [hv j]
          by_cases hj : s.fill = j
          · subst hj
            rw [if_neg (by omega), if_pos (by omega)]
            simp [hu, hf, assemble_eq_concat, ← headWord_cons a b c d q, ← hq]
          · by_cases hj2 : s.fill ≤ j ∧ j < s.fill + (k + 1)
            · rw [if_pos (by omega), if_pos hj2]
              obtain ⟨m, rfl⟩ : ∃ m, j = s.fill + 1 + m := ⟨j - s.fill - 1, by omega⟩
              rw [e, hq, show s.fill + 1 + m - s.fill = m + 1 by omega, show s.fill + 1 + m - u.fill = m by omega,
                show 4 * (m + 1) = 4 * m + 1 + 1 + 1 + 1 by ring]
              simp
            · rw [if_neg (by omega), if_neg hj2]
              simp [hu, hj]

end Sys2Proof.Machine
end

