-- ==== Sys2Proof/Laws/Transmitter.lean ====
section
/-! SUPPORT. What the scan loop of TX_SEND can do: each turn is the unit that R90 decodes at the scan index, a scan
without reserved tag writes the rest of the line, and a scan with one is refused. -/

namespace Sys2Proof.Machine

/-- The characters from the scan index on are what the indexed reads of TX_SEND see (R53). -/
theorem tpl_read (s : State) (k : Nat) : s.tpl[s.ti + k]? = (s.tpl.drop s.ti)[k]? := by
  rw [List.getElem?_drop]

/-- One turn of the scan loop (R151) is the unit that R90 decodes at the scan index. -/
theorem scanLoop_turn (n : Nat) (s : State) :
    scanLoop (n + 1) s =
      (if (decodeTemplate s.cfg.tagUlFix (s.tpl.drop s.ti)).1 = .tEol then .next s
       else if (decodeTemplate s.cfg.tagUlFix (s.tpl.drop s.ti)).1 = .tTrunc then execTTrunc s
       else andThen (exec (decodeTemplate s.cfg.tagUlFix (s.tpl.drop s.ti)).1 s) fun t => scanLoop n t) := by
  have h0 : s.tpl[s.ti]? = (s.tpl.drop s.ti)[0]? := tpl_read s 0
  rw [scanLoop]
  rw [h0, tpl_read s 1, tpl_read s 2]
  rcases s.tpl.drop s.ti with _ | ⟨c, q⟩
  · simp [decodeTemplate]
  · by_cases hc : c = escMarker
    · subst hc
      rcases q with _ | ⟨t, q⟩
      · simp [decodeTemplate]
      · have hl : charL ≠ charU := by decide
        have hd : charD ≠ charU := by decide
        have hi : charI ≠ charU := by decide
        by_cases h1 : t = charL
        · subst h1
          simp [decodeTemplate, decodeTag, exec, hl]
        by_cases h2 : t = charU
        · subst h2
          have h4 : q.head? = q[0]? := by cases q <;> rfl
          by_cases h3 : s.cfg.tagUlFix = true ∧ q.head? = some charL
          · simp [decodeTemplate, exec, h1, h3, ← h4]
          · simp [decodeTemplate, decodeTag, exec, h1, ← h4]
            rw [if_neg h3, if_neg h3]
            simp
        · by_cases h3 : t = charD
          · subst h3; simp [decodeTemplate, decodeTag, exec, h1, h2]
          · by_cases h4 : t = charI
            · subst h4; simp [decodeTemplate, decodeTag, exec, h1, h2, h3]
            · simp [decodeTemplate, decodeTag, exec, h1, h2, h3, h4, execTRsvd]
    · simp [decodeTemplate, hc, exec]

/-- Executing the unit of a tag character that is not reserved (R155 to R158). -/
theorem exec_decodeTag {t : Byte} (h : isTagChar t = true) (s : State) :
    exec (decodeTag t) s = .next ((s.tiAdvance 2).render (tagConv s.cfg.intW t)) := by
  simp only [isTagChar, Bool.or_eq_true, decide_eq_true_eq] at h
  rcases h with ((rfl | rfl) | rfl) | rfl <;> rfl

theorem decodeTag_ne_end (t : Byte) : decodeTag t ≠ .tEol ∧ decodeTag t ≠ .tTrunc := by
  unfold decodeTag; repeat' split
  all_goals simp

/-- RENDER behind the advance of TI (R153). -/
theorem scan_step_tag {s : State} {conv : Word → Int} {k : Nat} :
    (s.tiAdvance k).render conv
      = { s with txs := s.txs ++ fieldText conv (s.ov.drop s.cur)
                 cur := if s.cur < s.ov.length then s.cur + 1 else s.cur, ti := s.ti + k } := by
  rw [render_eq]; rfl

theorem drop_cursor (s : State) :
    s.ov.drop (if s.cur < s.ov.length then s.cur + 1 else s.cur) = (s.ov.drop s.cur).tail := by
  by_cases h : s.cur < s.ov.length
  · simp [h]
  · simp [h, List.drop_eq_nil_of_le (Nat.not_lt.mp h)]

theorem drop_further {α : Type} {l r : List α} {i k : Nat} {q : List α} (h : l.drop i = q) (hk : q.drop k = r) :
    l.drop (i + k) = r := by
  rw [← hk, ← h, List.drop_drop]

/-- TX_SEND's scan followed by T.EOL writes the rest of the line (R86, R151). -/
theorem scanLoop_spec : ∀ (n : Nat) (s : State) (q : List Byte), s.tpl.drop s.ti = q → q.length ≤ n →
    scanOk q = true →
    ∃ t : State, andThen (scanLoop n s) execTEol = .next t ∧
      t = { s with txs := s.txs ++ renderLine s.cfg.tagUlFix s.cfg.intW q (s.ov.drop s.cur)
                   cur := 0, ti := t.ti, ctl := .latch } := by
  intro n
  induction n with
  | zero =>
    intro s q hq hl hok
    obtain rfl : q = [] := List.eq_nil_of_length_eq_zero (by omega)
    exact ⟨_, rfl, rfl⟩
  | succ n ih =>
    intro s q hq hl hok
    rw [scanLoop_turn, hq]
    rcases q with _ | ⟨c, q⟩
    · exact ⟨_, rfl, rfl⟩
    by_cases hc : c = escMarker
    · subst hc
      rcases q with _ | ⟨t, q⟩
      · refine ⟨_, rfl, ?_⟩
        simp [renderLine, State.setCtl, State.txWrite]
      · simp only [scanOk, if_true, Bool.and_eq_true] at hok
        simp only [List.length_cons] at hl
        by_cases hu : s.cfg.tagUlFix = true ∧ t = charU ∧ q.head? = some charL
        · obtain ⟨hf, rfl, hh⟩ := hu
          rcases q with _ | ⟨l, q⟩
          · simp at hh
          obtain rfl : l = charL := by simpa using hh
          have hsc : scanOk q = true := by
            rcases q with _ | ⟨x, q⟩
            · rfl
            · have := hok.2
              simp only [scanOk] at this
              rwa [if_neg (by decide)] at this
          simp only [decodeTemplate, ne_eq, not_true_eq_false, if_false, hf, List.head?_cons, and_self, if_true,
            reduceCtorEq, exec, execUl, scan_step_tag, andThen_next]
          obtain ⟨u, hu1, hu2⟩ := ih
            { s with txs := s.txs ++ fieldText convU (s.ov.drop s.cur)
                     cur := if s.cur < s.ov.length then s.cur + 1 else s.cur, ti := s.ti + 3 }
            q (drop_further (k := 3) hq rfl) (by simp at hl; omega) hsc
          refine ⟨u, hu1, ?_⟩
          rw [hu2]
          simp [renderLine, hf, drop_cursor]
        · have hd : (decodeTemplate s.cfg.tagUlFix (escMarker :: t :: q)) = (decodeTag t, q) := by
            simp [decodeTemplate, hu]
          simp only [hd, if_neg (decodeTag_ne_end t).1, if_neg (decodeTag_ne_end t).2,
            exec_decodeTag hok.1, scan_step_tag, andThen_next]
          obtain ⟨u, hu1, hu2⟩ := ih
            { s with txs := s.txs ++ fieldText (tagConv s.cfg.intW t) (s.ov.drop s.cur)
                     cur := if s.cur < s.ov.length then s.cur + 1 else s.cur, ti := s.ti + 2 }
            q (drop_further (k := 2) hq rfl) (by omega) hok.2
          refine ⟨u, hu1, ?_⟩
          rw [hu2]
          rcases q with _ | ⟨l, q⟩
          · simp [renderLine]
          · have hn : ¬ (s.cfg.tagUlFix = true ∧ t = charU ∧ l = charL) := by simpa using hu
            simp only [renderLine, if_true, if_neg hn]
            simp [drop_cursor]
    · have hsc : scanOk q = true := by
        rcases q with _ | ⟨x, q⟩
        · rfl
        · simpa [scanOk, hc] using hok
      have hd : (decodeTemplate s.cfg.tagUlFix (c :: q)) = (.tLit c, q) := by simp [decodeTemplate, hc]
      simp only [hd, reduceCtorEq, if_false, exec, execTLit, andThen_next]
      obtain ⟨u, hu1, hu2⟩ := ih ((s.txWrite [c]).tiAdvance 1) q (drop_further hq rfl) (by simp at hl; omega) hsc
      refine ⟨u, hu1, ?_⟩
      rw [hu2]
      rcases q with _ | ⟨x, _ | ⟨y, q⟩⟩ <;>
        simp [renderLine, hc, State.txWrite, State.tiAdvance]

/-- A scan that meets a reserved tag is refused (R160). -/
theorem scanLoop_reserved : ∀ (n : Nat) (s : State) (q : List Byte), s.tpl.drop s.ti = q → q.length ≤ n →
    scanOk q = false → scanLoop n s = .refused .reservedTag := by
  intro n
  induction n with
  | zero =>
    intro s q hq hl hok
    obtain rfl : q = [] := List.eq_nil_of_length_eq_zero (by omega)
    simp [scanOk] at hok
  | succ n ih =>
    intro s q hq hl hok
    rw [scanLoop_turn, hq]
    rcases q with _ | ⟨c, q⟩
    · simp [scanOk] at hok
    by_cases hc : c = escMarker
    · subst hc
      rcases q with _ | ⟨t, q⟩
      · simp [scanOk] at hok
      · simp only [scanOk, if_true, Bool.and_eq_false_iff] at hok
        simp only [List.length_cons] at hl
        by_cases hu : s.cfg.tagUlFix = true ∧ t = charU ∧ q.head? = some charL
        · obtain ⟨hf, rfl, hh⟩ := hu
          rcases q with _ | ⟨l, q⟩
          · simp at hh
          obtain rfl : l = charL := by simpa using hh
          have hsc : scanOk q = false := by
            rcases hok with h | h
            · simp [isTagChar] at h
            rcases q with _ | ⟨x, q⟩
            · simp [scanOk] at h
            · simp only [scanOk] at h
              rwa [if_neg (by decide)] at h
          simp only [decodeTemplate, ne_eq, not_true_eq_false, if_false, hf, List.head?_cons, and_self, if_true,
            reduceCtorEq, exec, execUl, scan_step_tag, andThen_next]
          exact ih _ q (drop_further hq rfl) (by simp at hl; omega) hsc
        · have hd : (decodeTemplate s.cfg.tagUlFix (escMarker :: t :: q)) = (decodeTag t, q) := by
            simp [decodeTemplate, hu]
          simp only [hd, if_neg (decodeTag_ne_end t).1, if_neg (decodeTag_ne_end t).2]
          by_cases ht : isTagChar t = true
          · simp only [exec_decodeTag ht, scan_step_tag, andThen_next]
            exact ih _ q (drop_further hq rfl) (by omega) (by simpa [ht] using hok)
          · have : decodeTag t = .tRsvd t := by
              simp [isTagChar] at ht
              simp [decodeTag, ht]
            simp [this, exec, execTRsvd]
    · have hsc : scanOk q = false := by
        rcases q with _ | ⟨x, q⟩
        · simp [scanOk] at hok
        · simpa [scanOk, hc] using hok
      have hd : (decodeTemplate s.cfg.tagUlFix (c :: q)) = (.tLit c, q) := by simp [decodeTemplate, hc]
      simp only [hd, reduceCtorEq, if_false, exec, execTLit, andThen_next]
      exact ih _ q (drop_further hq rfl) (by simp at hl; omega) hsc

end Sys2Proof.Machine
end

