-- ==== Sys2Proof/Tests/Slice0.lean ====
section
/-! SUPPORT. The model's own tests. Expected results are the words of 30_encoding and the vectors of 95_test_vectors,
named in each comment; `witness` theorems show that the hypotheses of a statement can be met. -/

namespace Sys2Proof.Tests

open Sys2Proof.Machine

/-! ## Decoding: one word written out from the spec for every constructor -/

/-- R82: RXB in AwaitingStart, any byte but 0x3C. -/
theorem test_decode_rxDiscard : decode false (.wire .awaitingStart [0b01000001]) = .ok (.rxDiscard 0x41) := rfl

/-- R82: RXB, match 0x3C. -/
theorem test_decode_rxStart : decode false (.wire .awaitingStart [0b00111100]) = .ok .rxStart := rfl

/-- R82: RXW, first byte on the left; R84: 0x3C is data here. -/
theorem test_decode_rxWord :
    decode false (.wire .receivingData [0b00111100, 0b00000001, 0b10000000, 0b11111111])
      = .ok (.rxWord 0x3C 0x01 0x80 0xFF) := rfl

/-- R88: TL. -/
theorem test_decode_tLit : decode false (.template [0b01010011]) = .ok (.tLit 0x53) := rfl

/-- R89: `25 6C`. -/
theorem test_decode_tL : decode false (.template [0b00100101, 0b01101100]) = .ok .tL := rfl

/-- R89: `25 75`. -/
theorem test_decode_tU : decode false (.template [0b00100101, 0b01110101]) = .ok .tU := rfl

/-- R89: `25 64`. -/
theorem test_decode_tD : decode false (.template [0b00100101, 0b01100100]) = .ok .tD := rfl

/-- R89: `25 69`. -/
theorem test_decode_tI : decode false (.template [0b00100101, 0b01101001]) = .ok .tI := rfl

/-- R90: in `%%l` the units are T.RSVD (`%%`) and then T.LIT `l`. -/
theorem test_decode_tRsvd :
    decodeTemplate false [0b00100101, 0b00100101, 0b01101100] = (.tRsvd 0x25, [0b01101100]) := rfl

/-- R88: TE. -/
theorem test_decode_tTrunc : decode false (.template [0b00100101]) = .ok .tTrunc := rfl

/-- R88: TEND. -/
theorem test_decode_tEol : decode false (.template []) = .ok .tEol := rfl

/-- R93: `25 75 6C` is T.U and leaves the `l`; D12: with TAG_UL_FIX it is one unit. -/
theorem test_decode_ul :
    decodeTemplate false [0b00100101, 0b01110101, 0b01101100] = (.tU, [0b01101100])
      ∧ decode true (.template [0b00100101, 0b01110101, 0b01101100]) = .ok .ul := ⟨rfl, rfl⟩

/-- A command with every operand set to something, so that a decoder that took the wrong one would show. -/
def cmd (code : BitVec 3) : Command := { code := code, en := true, str := [0x25, 0x75], idx := 7, w := 0xCAFE0001 }

/-- R103: the eight codes. -/
theorem test_decode_commands :
    decodeCommand (cmd 0b000) = .poll ∧ decodeCommand (cmd 0b001) = .takeUpdated
      ∧ decodeCommand (cmd 0b010) = .setEnabled true ∧ decodeCommand (cmd 0b011) = .setTemplate [0x25, 0x75]
      ∧ decodeCommand (cmd 0b100) = .ivRead 7 ∧ decodeCommand (cmd 0b101) = .ovWrite 7 0xCAFE0001
      ∧ decodeCommand (cmd 0b110) = .ovRead 7 ∧ decodeCommand (cmd 0b111) = .hRsvd :=
  ⟨rfl, rfl, rfl, rfl, rfl, rfl, rfl, rfl⟩

/-- R103: the reset input. -/
theorem test_decode_reset : decode false (.resetInput [0x25] 100 none) = .ok (.reset [0x25] 100 none) := rfl

/-- R103: the sub-operations have no encoding. -/
theorem test_subOperations_have_no_encoding : encode .rxCheck = none ∧ encode .txSend = none := ⟨rfl, rfl⟩

/-- The receiver waits for a byte (R122) and for four (R123); bytes beyond one unit are not dropped. -/
theorem test_decode_rejects :
    decode false (.wire .awaitingStart []) = .error .emptySource
      ∧ decode false (.wire .receivingData [1, 2, 3]) = .error .shortWord
      ∧ decode false (.wire .awaitingStart [0x3C, 0]) = .error .trailing := ⟨rfl, rfl, rfl⟩

/-- Table words of the rows with fixed bits, as spec/opcode_table.json numbers them. -/
theorem test_tableWord_fixed :
    decodeTableWord 8 0x3C = some .rxStart ∧ decodeTableWord 8 0x25 = some .tTrunc
      ∧ decodeTableWord 16 0x256C = some .tL ∧ decodeTableWord 16 0x2575 = some .tU
      ∧ decodeTableWord 16 0x2564 = some .tD ∧ decodeTableWord 16 0x2569 = some .tI
      ∧ decodeTableWord 16 0x2500 = some (.tRsvd 0x00) ∧ decodeTableWord 24 0x25756C = some .tU := by decide

/-- Table words of rows without fixed bits, and the 3-bit host codes. -/
theorem test_tableWord_open :
    decodeTableWord 8 0x41 = some (.rxDiscard 0x41)
      ∧ decodeTableWord 32 0x12345678 = some (.rxWord 0x12 0x34 0x56 0x78)
      ∧ decodeTableWord 24 0x345678 = some (.rxWord 0 0x34 0x56 0x78)
      ∧ decodeTableWord 0 0 = some .tEol ∧ decodeTableWord 3 0 = some .poll
      ∧ decodeTableWord 3 7 = some .hRsvd := by decide

/-! ## WellFormed: an ill-formed term for each check -/

theorem test_wf_rxDiscard : (Instr.rxDiscard 0x3C).wf Params.chosen = false
    ∧ (Instr.rxDiscard 0x3D).wf Params.chosen = true := by decide

theorem test_wf_tLit : (Instr.tLit 0x25).wf Params.chosen = false ∧ (Instr.tLit 0x00).wf Params.chosen = false
    ∧ (Instr.tLit 0x6C).wf Params.chosen = true := by decide

theorem test_wf_tRsvd : (Instr.tRsvd 0x6C).wf Params.chosen = false ∧ (Instr.tRsvd 0x75).wf Params.chosen = false
    ∧ (Instr.tRsvd 0x64).wf Params.chosen = false ∧ (Instr.tRsvd 0x69).wf Params.chosen = false
    ∧ (Instr.tRsvd 0x25).wf Params.chosen = true := by decide

theorem test_wf_ul : Instr.ul.wf Params.chosen = false
    ∧ Instr.ul.wf { Params.chosen with tagUlFix := true } = true := by decide

/-- V-H-8 `%x`; R94 0x00; R100 a template longer than TPL_MAX; R100 an unterminated escape is well-formed. -/
theorem test_wf_setTemplate : (Instr.setTemplate [0x25, 0x78]).wf Params.chosen = false
    ∧ (Instr.setTemplate [0x41, 0x00]).wf Params.chosen = false
    ∧ (Instr.setTemplate [0x41, 0x42]).wf { Params.chosen with tplMax := 1 } = false
    ∧ (Instr.setTemplate [0x41, 0x25]).wf Params.chosen = true := by decide

theorem test_wf_reset : (Instr.reset [0x25, 0x25] 5 none).wf Params.chosen = false
    ∧ (Instr.reset [] 256 none).wf { Params.chosen with clkW := 8 } = false
    ∧ (Instr.reset [] 255 none).wf { Params.chosen with ivReset := [] } = false
    ∧ (Instr.reset [] 255 none).wf { Params.chosen with clkW := 8 } = true := by decide

/-- R6: one bad configuration for each constraint. -/
theorem test_params_ok : Params.chosen.ok = true
    ∧ ({ Params.chosen with ivReset := [] } : Params).ok = false
    ∧ ({ Params.chosen with clkW := 0, interval := 0 } : Params).ok = false
    ∧ ({ Params.chosen with clkW := 4, interval := 16 } : Params).ok = false
    ∧ ({ Params.chosen with lastSendReset := 2 ^ 32 } : Params).ok = false
    ∧ ({ Params.chosen with tplReset := [0x25, 0x78] } : Params).ok = false
    ∧ ({ Params.chosen with rxqDepth := some 3 } : Params).ok = false
    ∧ ({ Params.chosen with rxqDepth := none } : Params).ok = true := by decide

/-! ## Single steps of the receiver (95 part 2.1) -/

/-- A configuration with INTERVAL = 100 and a byte source of 64 bytes; two elements in each vector. -/
def cfg0 : Params := { Params.chosen with interval := 100 }

/-- Its state after reset. -/
def s0 : State := State.resetWith cfg0

/-- R124's example: 0x41 is removed, the rest stays, nothing else changes. -/
theorem test_rxDiscard : nextOf (exec (.rxDiscard 0x41) { s0 with rxq := [0x41, 0x3C] }) = some { s0 with rxq := [0x3C] } := by
  decide

/-- R125's example. -/
theorem test_rxStart :
    (nextOf (exec .rxStart { s0 with rxq := [0x3C, 0, 0, 0, 1] })).map (fun t => (t.rstate, t.rxq, t.updated))
      = some (.receivingData, [0, 0, 0, 1], false) := by decide

/-- R126's example: N_IN = 2, FILL = 1, bytes FF FF FF FE. -/
theorem test_rxWord_completes :
    (nextOf (exec (.rxWord 0xFF 0xFF 0xFF 0xFE)
        { s0 with rstate := .receivingData, fill := 1, iv := [5, 6], rxq := [0xFF, 0xFF, 0xFF, 0xFE, 0x3C] })).map
      (fun t => (t.iv, t.fill, t.updated, t.rstate, t.rxq))
      = some ([5, 0xFFFFFFFE], 0, true, .awaitingStart, [0x3C]) := by decide

/-- S4's byte order, FILL = 0 of 2: the frame is not complete. -/
theorem test_rxWord_bigEndian :
    (nextOf (exec (.rxWord 0x12 0x34 0x56 0x78)
        { s0 with rstate := .receivingData, iv := [5, 6], rxq := [0x12, 0x34, 0x56, 0x78] })).map
      (fun t => (t.iv, t.fill, t.updated, t.rstate))
      = some ([0x12345678, 6], 1, false, .receivingData) := by decide

/-- V-RX-1, call 1: the call stops at the marker although 8 more bytes are available. -/
theorem test_rxCheck_stops_at_marker :
    (nextOf (exec .rxCheck { s0 with rxq := [0x41, 0, 0x3C, 0, 0, 0, 1, 0xFF, 0xFF, 0xFF, 0xFE] })).map
      (fun t => (t.rstate, t.fill, t.updated, t.rxq))
      = some (.receivingData, 0, false, [0, 0, 0, 1, 0xFF, 0xFF, 0xFF, 0xFE]) := by decide

/-- V-RX-5, call 2: four bytes across the next marker are data, and the rest stays for a later call. -/
theorem test_rxCheck_completes :
    (nextOf (exec .rxCheck { s0 with rstate := .receivingData, rxq := [0, 0, 0, 1, 0x3C, 0, 0, 0, 2, 0x3C, 0, 0, 0, 3] })).map
      (fun t => (t.iv, t.rstate, t.updated, t.rxq))
      = some ([1, 0x3C000000], .awaitingStart, true, [2, 0x3C, 0, 0, 0, 3]) := by decide

/-! ## Single steps of the transmitter (95 part 2.2, the examples of 41_transmitter) -/

/-- R154's example: `S` at TI = 0. -/
theorem test_tLit : (nextOf (exec (.tLit 0x53) s0)).map (fun t => (t.txs, t.ti)) = some ([0x53], 1) := by decide

/-- R155: 0xFFFFFFFE appends `2D 32`; 0x80000000 renders -2147483648. -/
theorem test_tL : (nextOf (exec .tL { s0 with ov := [0xFFFFFFFE] })).map (fun t => (t.txs, t.cur, t.ti))
      = some ([0x2D, 0x32], 1, 2)
    ∧ (nextOf (exec .tL { s0 with ov := [0x80000000] })).map (fun t => t.txs)
      = some [0x2D, 0x32, 0x31, 0x34, 0x37, 0x34, 0x38, 0x33, 0x36, 0x34, 0x38] := by decide

/-- R153: the character `0` on exhaustion, CUR unchanged. -/
theorem test_tL_exhausted : (nextOf (exec .tL { s0 with ov := [7], cur := 1 })).map (fun t => (t.txs, t.cur, t.ti))
    = some ([0x30], 1, 2) := by decide

/-- R156: 0xFFFFFFFE appends the ten bytes of 4294967294. -/
theorem test_tU : (nextOf (exec .tU { s0 with ov := [0xFFFFFFFE] })).map (fun t => t.txs)
    = some [0x34, 0x32, 0x39, 0x34, 0x39, 0x36, 0x37, 0x32, 0x39, 0x34] := by decide

/-- R157 with INT_W = 16: 70000 renders 4464, 40000 renders -25536. -/
theorem test_tD : (nextOf (exec .tD { s0 with ov := [0x00011170] })).map (fun t => t.txs) = some [0x34, 0x34, 0x36, 0x34]
    ∧ (nextOf (exec .tD { s0 with ov := [0x00009C40] })).map (fun t => t.txs)
      = some [0x2D, 0x32, 0x35, 0x35, 0x33, 0x36] := by decide

/-- P4 with INT_W = 32: 0x0000FFFF renders 65535 (the same word renders -1 with INT_W = 16). -/
theorem test_tD_w32 :
    (nextOf (exec .tD { s0 with cfg := { cfg0 with intW := .w32 }, ov := [0x0000FFFF] })).map (fun t => t.txs)
      = some [0x36, 0x35, 0x35, 0x33, 0x35] := by decide

/-- R158's example, and -32769 renders 32767. -/
theorem test_tI : (nextOf (exec .tI { s0 with ov := [0x00011170] })).map (fun t => t.txs) = some [0x34, 0x34, 0x36, 0x34]
    ∧ (nextOf (exec .tI { s0 with ov := [0xFFFF7FFF] })).map (fun t => t.txs)
      = some [0x33, 0x32, 0x37, 0x36, 0x37] := by decide

/-- R160: refused. -/
theorem test_tRsvd : exec (.tRsvd 0x78) s0 = .refused .reservedTag := rfl

/-- R159: nothing is written, no element consumed. -/
theorem test_tTrunc : (nextOf (exec .tTrunc s0)).map (fun t => (t.txs, t.cur, t.ctl)) = some ([], 0, .sendEnd) := by decide

/-- R162: 0x0A and CUR cleared. -/
theorem test_tEol : (nextOf (exec .tEol { s0 with txs := [0x45], cur := 2 })).map (fun t => (t.txs, t.cur))
    = some ([0x45, 0x0A], 0) := by decide

/-- V-TX-5: `%ul` of 0xFFFFFFFF appends `4294967295l`. -/
theorem test_ul : (nextOf (exec .ul { s0 with ov := [0xFFFFFFFF] })).map (fun t => (t.txs, t.ti))
    = some ([0x34, 0x32, 0x39, 0x34, 0x39, 0x36, 0x37, 0x32, 0x39, 0x35, 0x6C], 3) := by decide

/-- P1, the source's example S1. -/
theorem test_txSend_source_example :
    (nextOf (exec .txSend { s0 with
        ov := [1, 0xFFFFFFFE, 3]
        tpl := [0x53, 0x20, 0x25, 0x6C, 0x20, 0x25, 0x6C, 0x20, 0x25, 0x6C, 0x20, 0x45] })).map
      (fun t => (t.txs, t.cur))
      = some ([0x53, 0x20, 0x31, 0x20, 0x2D, 0x32, 0x20, 0x33, 0x20, 0x45, 0x0A], 0) := by decide

/-- P4 with INT_W = 16: `%ul`, narrowing, zero-fill and T.TRUNC in one line. -/
theorem test_txSend_p4 :
    (nextOf (exec .txSend { s0 with
        ov := [0x80000000, 0x0000FFFF]
        tpl := [0x25, 0x75, 0x6C, 0x3B, 0x25, 0x64, 0x3B, 0x25, 0x69, 0x3B, 0x25, 0x6C, 0x25] })).map (fun t => t.txs)
      = some [0x32, 0x31, 0x34, 0x37, 0x34, 0x38, 0x33, 0x36, 0x34, 0x38, 0x6C, 0x3B, 0x2D, 0x31, 0x3B, 0x30, 0x3B,
          0x30, 0x0A] := by decide

/-! ## Single host operations (95 part 2.3) -/

/-- V-H-3: CLK_W = 32, LAST_SEND = 0xFFFFFF9C, clock 0: elapsed 100, the line is sent and LAST_SEND becomes 0. -/
theorem test_poll_sends_across_wrap :
    (nextOf (exec .poll { s0 with lastSend := 0xFFFFFF9C, clk := 0, tpl := [0x25, 0x6C], ov := [7, 8] })).map
      (fun t => (t.txs, t.lastSend)) = some ([0x37, 0x0A], 0) := by decide

/-- V-H-7: receive before send inside one POLL; the line comes from OV. -/
theorem test_poll_receives_then_sends :
    (nextOf (exec .poll { s0 with rstate := .receivingData, fill := 1, rxq := [0, 0, 0, 9], clk := 100, ov := [1],
                                  tpl := [0x25, 0x6C] })).map
      (fun t => (t.iv[1]?, t.updated, t.txs, t.lastSend)) = some (some 9, true, [0x31, 0x0A], 100) := by decide

/-- V-H-6: a disabled POLL changes nothing. -/
theorem test_poll_disabled :
    nextOf (exec .poll { s0 with enabled := false, rxq := [0x3C, 0, 0, 0, 1], clk := 5000 })
      = some { s0 with enabled := false, rxq := [0x3C, 0, 0, 0, 1], clk := 5000 } := by decide

/-- V-H-4: true, and the flag is cleared. -/
theorem test_takeUpdated : (nextOf (exec .takeUpdated { s0 with updated := true })).map (fun t => (t.result, t.updated))
    = some (some (.bit true), false) := by decide

/-- R194's example: RSTATE and FILL stay. -/
theorem test_setEnabled : nextOf (exec (.setEnabled false) { s0 with rstate := .receivingData, fill := 1 })
    = some { s0 with rstate := .receivingData, fill := 1, enabled := false } := by decide

/-- P3 step 8, and V-H-8: `%x` is refused. -/
theorem test_setTemplate :
    (nextOf (exec (.setTemplate [0x25, 0x64, 0x2C, 0x25]) s0)).map (fun t => (t.tpl, t.txs))
      = some ([0x25, 0x64, 0x2C, 0x25], [])
    ∧ exec (.setTemplate [0x25, 0x78]) s0 = .refused .templateNotWellFormed := ⟨by decide, rfl⟩

/-- R196's example, and V-H-8: IV_READ(N_IN) is refused. -/
theorem test_ivRead : (nextOf (exec (.ivRead 1) { s0 with iv := [1, 0xFFFFFFFE] })).map (fun t => t.result)
      = some (some (.word 0xFFFFFFFE))
    ∧ exec (.ivRead 2) s0 = .refused .indexOutsideVector := ⟨by decide, rfl⟩

/-- R197, and V-H-8: OV_WRITE(N_OUT, w) is refused. -/
theorem test_ovWrite : (nextOf (exec (.ovWrite 0 0xFFFFFFFE) { s0 with ov := [1, 2] })).map (fun t => t.ov)
      = some [0xFFFFFFFE, 2]
    ∧ exec (.ovWrite 2 0) s0 = .refused .indexOutsideVector := ⟨by decide, rfl⟩

/-- R198's example, and V-H-8: OV_READ(N_OUT) is refused. -/
theorem test_ovRead : (nextOf (exec (.ovRead 0) { s0 with ov := [5, 6] })).map (fun t => t.result)
      = some (some (.word 5))
    ∧ exec (.ovRead 2) s0 = .refused .indexOutsideVector := ⟨by decide, rfl⟩

/-- V-H-8: host code 7 is refused. -/
theorem test_hRsvd : exec .hRsvd s0 = .refused .reservedHostCode := rfl

/-- A disabled receiver in the middle of a frame. -/
def midFrame : State := { s0 with
  rstate := .receivingData, fill := 1, updated := true, enabled := false, rxq := [1, 2], txs := [3], clk := 4, iv := [5, 6] }

/-- R250 from a state in the middle of a frame: FILL and RSTATE start again, RXQ, TXS, IV and CLK stay; V-H-8: N_IN = 0. -/
theorem test_reset :
    (nextOf (exec (.reset [0x25] 9 none) midFrame)).map (fun t => (t.rstate, t.fill, t.updated, t.enabled, t.interval))
      = some (.awaitingStart, 0, false, true, 9)
    ∧ (nextOf (exec (.reset [0x25] 9 none) midFrame)).map (fun t => (t.tpl, t.rxq, t.txs, t.clk, t.iv))
      = some ([0x25], [1, 2], [3], 4, [5, 6])
    ∧ exec (.reset [] 9 none) { s0 with iv := [] } = .refused .configuration := ⟨by decide, by decide, rfl⟩

/-! ## Fetching: the first step after reset runs the placed unit -/

/-- A byte of the wire: RX.START, then RX.DISCARD. -/
theorem test_fetch_wire :
    (nextOf (step (State.reset.withFetchWord 8 0x3C))).map (fun t => (t.rstate, t.rxq)) = some (.receivingData, [])
    ∧ (nextOf (step (State.reset.withFetchWord 8 0x41))).map (fun t => (t.rstate, t.rxq)) = some (.awaitingStart, []) := by
  decide

/-- A word of the wire. -/
theorem test_fetch_word :
    (nextOf (step (State.reset.withFetchWord 32 0x12345678))).map (fun t => (t.iv[0]?, t.fill))
      = some (some 0x12345678, 1) := by decide

/-- A tag of the template: the first element of OutputVector appears. -/
theorem test_fetch_tag :
    (nextOf (step ({ State.reset with ov := [42] }.withFetchWord 16 0x256C))).map (fun t => (t.txs, t.ti))
      = some ([0x34, 0x32], 2) := by decide

/-- A reserved tag and a reserved host code are refused. -/
theorem test_fetch_reserved : step (State.reset.withFetchWord 16 0x2500) = .refused .reservedTag
    ∧ step (State.reset.withFetchWord 3 7) = .refused .reservedHostCode := ⟨rfl, rfl⟩

/-- A command. -/
theorem test_fetch_command :
    (nextOf (step (State.reset.withFetchWord 3 1))).map (fun t => t.result) = some (some (.bit false)) := by decide

/-- The empty word of T.EOL. -/
theorem test_fetch_eol : (nextOf (step (State.reset.withFetchWord 0 0))).map (fun t => t.txs) = some [0x0A] := by decide

/-! ## The hypotheses of the statements can be met -/

/-- A byte source of 4 bytes. -/
def s4 : State := State.resetWith { cfg0 with rxqDepth := some 4 }

theorem test_witness_RxDiscardOnlyConsumesItsByte :
    (0x3B : Byte) ≠ 0x3C ∧ (0x3D : Byte) ≠ 0x3C ∧ ({ s0 with rxq := [0xFF] } : State).rxq ≠ [] := by decide

theorem test_witness_RxStartEntersReceivingData : ({ s0 with rxq := [0x3C] } : State).rxq ≠ [] := by decide

/-- Exactly four bytes; FILL = 0 does not complete the frame, FILL = N_IN - 1 does. -/
theorem test_witness_RxWordStoresBigEndianWord :
    4 ≤ ({ s0 with rxq := [1, 2, 3, 4] } : State).rxq.length
      ∧ s0.fill < s0.iv.length ∧ s0.fill + 1 ≠ s0.iv.length
      ∧ ({ s0 with fill := 1 } : State).fill < ({ s0 with fill := 1 } : State).iv.length
      ∧ ({ s0 with fill := 1 } : State).fill + 1 = ({ s0 with fill := 1 } : State).iv.length := by decide

theorem test_witness_WireUnitsStopOnEmptySource :
    s0.rxq = [] ∧ ({ s0 with rxq := [1, 2, 3] } : State).rxq.length < 4
      ∧ 4 ≤ ({ s0 with rxq := [1, 2, 3, 4], iv := [] } : State).rxq.length
      ∧ ({ s0 with rxq := [1, 2, 3, 4], iv := [] } : State).iv = [] := by decide

theorem test_witness_AwaitLoopStopsAtFirstMarker :
    s0.rstate = .awaitingStart ∧ (0x3C : Byte) ∈ ({ s0 with rxq := [1, 0x3C] } : State).rxq
      ∧ (0x3C : Byte) ∉ ({ s0 with rxq := [1, 2] } : State).rxq := by decide

theorem test_witness_DataLoopStoresAvailableWords :
    ({ s0 with rstate := .receivingData, fill := 1 } : State).rstate = .receivingData
      ∧ ({ s0 with rstate := .receivingData, fill := 1 } : State).fill
          < ({ s0 with rstate := .receivingData, fill := 1 } : State).iv.length := by decide

theorem test_witness_FrameRoundTrip :
    s0.rstate = .awaitingStart ∧ s0.fill = 0 ∧ s0.rxq = [] ∧ s0.iv ≠ []
      ∧ ([1, 0xFFFFFFFE] : List Word).length = s0.iv.length := by decide

theorem test_witness_ReceptionIsChunkInvariant : s0.iv ≠ [] := by decide

theorem test_witness_GarbageWritesNothing :
    s0.rstate = .awaitingStart ∧ (0x3C : Byte) ∉ ([0x3B, 0x3D] : List Byte)
      ∧ ({ s0 with rxq := [0x3B, 0x3D] } : State).rxq = [0x3B, 0x3D]
      ∧ ({ s0 with rxq := [0x3B, 0x3D, 0x3C, 1] } : State).rxq = [0x3B, 0x3D] ++ 0x3C :: [1] := by decide

theorem test_witness_LiteralIsCopied : (0x24 : Byte) ≠ 0x25 ∧ (0x26 : Byte) ≠ 0x25 := by decide

/-- For the statements about T.L, T.U, T.D and T.I: the last element, and the exhausted cursor. -/
theorem test_witness_TagLRendersSigned :
    ({ s0 with ov := [5, 0x80000000], cur := 1 } : State).ov[1]? = some 0x80000000
      ∧ ({ s0 with ov := [5, 6], cur := 2 } : State).ov.length ≤ ({ s0 with ov := [5, 6], cur := 2 } : State).cur := by
  decide

theorem test_witness_TagURendersUnsigned :
    ({ s0 with ov := [0xFFFFFFFF] } : State).ov[s0.cur]? = some 0xFFFFFFFF
      ∧ ({ s0 with ov := [] } : State).ov.length ≤ s0.cur := by decide

theorem test_witness_TagsDAndINarrowToIntWidth :
    ({ s0 with ov := [0x00008000] } : State).ov[s0.cur]? = some 0x00008000 ∧ s0.cfg.intW = .w16
      ∧ ({ s0 with cfg := { cfg0 with intW := .w32 } } : State).cfg.intW = .w32
      ∧ ({ s0 with ov := [] } : State).ov.length ≤ s0.cur := by decide

theorem test_witness_UnterminatedEscapeEndsTheScan :
    ({ s0 with ctl := .sendEnd } : State).ctl = .sendEnd ∧ ({ s0 with ctl := .sendEnd } : State).inputs = [] := by decide

theorem test_witness_ReservedTagIsRefused :
    (0x25 : Byte) ≠ 0x6C ∧ (0x25 : Byte) ≠ 0x75 ∧ (0x25 : Byte) ≠ 0x64 ∧ (0x25 : Byte) ≠ 0x69
      ∧ scanOk ({ s0 with tpl := [0x41, 0x25, 0x25] } : State).tpl = false := by decide

theorem test_witness_UlIsTagUThenLiteral : s0.cfg.tagUlFix = false := by decide

theorem test_witness_UlWithFixIsOneUnit :
    ({ s0 with cfg := { cfg0 with tagUlFix := true } } : State).cfg.tagUlFix = true := by decide

theorem test_witness_DecimalTextFollowsItsEquations :
    (-1 : Int) < 0 ∧ 9 ≤ 9 ∧ 10 ≤ 10 := by decide

theorem test_witness_DecimalTextDenotesTheNumber :
    (0x30 : Byte) ∈ dec (10 : Int) ∧ (10 : Nat) ≠ 0 := by decide

/-- An unterminated escape, and the empty template. -/
theorem test_witness_TxSendAppendsItsLine :
    scanOk ({ s0 with tpl := [0x25, 0x6C, 0x25] } : State).tpl = true ∧ scanOk s0.tpl = true := by decide

theorem test_witness_LineLengthIsBounded : scanOk ({ s0 with tpl := [0x25, 0x6C] } : State).tpl = true := by decide

theorem test_witness_SourceExampleLine :
    ({ s0 with ov := [1, 0xFFFFFFFE, 3] } : State).ov = [0x00000001, 0xFFFFFFFE, 0x00000003]
      ∧ ({ s0 with tpl := [0x53, 0x20, 0x25, 0x6C, 0x20, 0x25, 0x6C, 0x20, 0x25, 0x6C, 0x20, 0x45] } : State).tpl
          = [0x53, 0x20, 0x25, 0x6C, 0x20, 0x25, 0x6C, 0x20, 0x25, 0x6C, 0x20, 0x45] := by decide

/-- Disabled; enabled and due (elapsed exactly INTERVAL); enabled and not due (one less). -/
theorem test_witness_PollReceivesThenSendsWhenDue :
    s0.fill < s0.iv.length ∧ scanOk s0.tpl = true ∧ ({ s0 with enabled := false } : State).enabled = false
      ∧ s0.enabled = true ∧ ({ s0 with clk := 100 } : State).due = true ∧ ({ s0 with clk := 99 } : State).due = false
      ∧ (cmd 0).code = 0 := by decide

theorem test_witness_IntervalGateIsModular :
    2 ^ 16 - 1 < 2 ^ 16 ∧ ({ s0 with interval := 0 } : State).interval = 0 := by decide

/-- For the statements about host operations: each has its code. -/
theorem test_witness_HostCodesNameTheOperations :
    (cmd 0).code = 0 ∧ (cmd 1).code = 1 ∧ (cmd 2).code = 2 ∧ (cmd 3).code = 3 ∧ (cmd 4).code = 4 ∧ (cmd 5).code = 5
      ∧ (cmd 6).code = 6 ∧ (cmd 7).code = 7 := by decide

theorem test_witness_TakeUpdatedReturnsAndClears : (cmd 1).code = 1 := by decide

theorem test_witness_SetEnabledWritesOnlyEnabled : (cmd 2).code = 2 := by decide

theorem test_witness_SetTemplateReplacesWholeStore :
    (cmd 3).code = 3 ∧ templateOk s0.cfg.tplMax [0x25] = true ∧ templateOk s0.cfg.tplMax [0x25, 0x25] = false := by decide

theorem test_witness_IvReadReturnsElement : (cmd 4).code = 4 ∧ 1 < s0.iv.length ∧ s0.iv.length ≤ 2 := by decide

theorem test_witness_OvWriteWritesElement : (cmd 5).code = 5 ∧ 1 < s0.ov.length ∧ s0.ov.length ≤ 2 := by decide

theorem test_witness_OvReadReturnsElement : (cmd 6).code = 6 ∧ 1 < s0.ov.length ∧ s0.ov.length ≤ 2 := by decide

theorem test_witness_OvReadAfterWrite : 0 < s0.ov.length ∧ 1 < s0.ov.length := by decide

/-- Accepted at the largest interval; refused one above it, with N_IN = 0, and with an ill-formed template. -/
theorem test_witness_ResetInitialisesBlockState :
    s0.iv ≠ [] ∧ 2 ^ 32 - 1 < 2 ^ s0.cfg.clkW ∧ templateOk s0.cfg.tplMax [0x25] = true
      ∧ 2 ^ s0.cfg.clkW ≤ 2 ^ 32 ∧ ({ s0 with iv := [] } : State).iv = []
      ∧ templateOk s0.cfg.tplMax [0x25, 0x25] = false := by decide

theorem test_witness_ResetEndsTheOperationInProgress :
    (nextOf (exec (.reset [] 5 none) { s0 with ctl := .receive })).map (fun t => t.ctl) = some .idle := by decide

theorem test_witness_ResetValues : (nextOf (exec (.reset [] 5 none) { s0 with rxq := [1] })).map (fun t => t.rxq) = some [1] := by
  decide

theorem test_witness_ResetMeetsTheInvariants : cfg0.ok = true := by decide

/-- A state that meets the invariants and steps on, in the middle of a send. -/
theorem test_witness_StepKeepsTheInvariants :
    ({ s0 with ctl := .send, tpl := [0x41] } : State).Inv
      ∧ (nextOf (step { s0 with ctl := .send, tpl := [0x41] })).map (fun t => t.txs) = some [0x41] := by decide

/-- A state that meets the invariants and whose step is refused. -/
theorem test_witness_OnlyHostOperationsAreRefused :
    ({ s0 with inputs := [.command (cmd 7)] } : State).Inv
      ∧ step { s0 with inputs := [.command (cmd 7)] } = .refused .reservedHostCode := ⟨by decide, rfl⟩

theorem test_witness_NothingChangesTheConfiguration :
    (nextOf (exec (.setEnabled false) s0)).map (fun t => t.cfg) = some cfg0 := by decide

/-- Every piece of block state the statement names does change under one of its writers. -/
theorem test_witness_EveryElementHasItsWriters :
    (∃ t, nextOf (exec (.rxWord 1 2 3 4) { s0 with rxq := [1, 2, 3, 4], fill := 1 }) = some t
        ∧ t.iv ≠ s0.iv ∧ s0.updated = false ∧ t.updated = true ∧ t.fill ≠ 1)
      ∧ (∃ t, nextOf (exec .rxStart { s0 with rxq := [0x3C] }) = some t ∧ t.rstate ≠ s0.rstate)
      ∧ (∃ t, nextOf (exec (.ovWrite 0 1) s0) = some t ∧ t.ov ≠ s0.ov)
      ∧ (∃ t, nextOf (exec .takeUpdated { s0 with updated := true }) = some t ∧ t.updated = false)
      ∧ (∃ t, nextOf (exec (.setEnabled false) s0) = some t ∧ t.enabled ≠ s0.enabled)
      ∧ (∃ t, nextOf (exec .poll { s0 with clk := 100 }) = some t ∧ t.lastSend ≠ s0.lastSend)
      ∧ (∃ t, nextOf (exec (.reset [0x41] 5 none) s0) = some t ∧ t.interval ≠ s0.interval ∧ t.tpl ≠ s0.tpl) :=
  ⟨⟨_, rfl, by decide⟩, ⟨_, rfl, by decide⟩, ⟨_, rfl, by decide⟩, ⟨_, rfl, by decide⟩, ⟨_, rfl, by decide⟩,
    ⟨_, rfl, by decide⟩, ⟨_, rfl, by decide⟩⟩

theorem test_witness_OutboundLogIsAppendOnly :
    (nextOf (step { s0 with txs := [1], tpl := [0x41], ctl := .send })).map (fun t => t.txs) = some [1, 0x41] := by decide

theorem test_witness_TransientStateIsUnobservable :
    isHostOperation .poll = true ∧ isHostOperation .txSend = true := by decide

/-- Each place of the statement, with no move pending. -/
theorem test_witness_StepRunsTheFetchedUnit :
    s0.inputs = [] ∧ decodeWire s0.rstate ({ s0 with rxq := [0x41] } : State).rxq = .ok (.rxDiscard 0x41, [])
      ∧ decodeWire s0.rstate s0.rxq = .error .emptySource
      ∧ decodeTemplate s0.cfg.tagUlFix (s0.tpl.drop s0.ti) = (.tEol, [])
      ∧ ({ s0 with ctl := .receive } : State).ctl = .receive ∧ ({ s0 with ctl := .gate } : State).ctl = .gate
      ∧ ({ s0 with ctl := .send } : State).ctl = .send ∧ ({ s0 with ctl := .sendEnd } : State).ctl = .sendEnd
      ∧ ({ s0 with ctl := .latch } : State).ctl = .latch ∧ s0.ctl = .idle :=
  ⟨rfl, rfl, rfl, rfl, rfl, rfl, rfl, rfl, rfl, rfl⟩

theorem test_witness_StepRunsThePendingHostOperation :
    s0.ctl = .idle ∧ ({ s0 with inputs := [.command (cmd 0)] } : State).inputs = [.command (cmd 0)]
      ∧ ({ s0 with inputs := [.pollByUnits, .run] } : State).inputs = [.pollByUnits, .run]
      ∧ ({ s0 with inputs := [.resetInput] } : State).inputs = [.resetInput] := ⟨rfl, rfl, rfl, rfl⟩

theorem test_witness_HostOperationWaitsForTheOneInProgress :
    ({ s0 with ctl := .receive, inputs := [.command (cmd 1)] } : State).ctl ≠ .idle
      ∧ ({ s0 with ctl := .send, inputs := [.pollByUnits] } : State).ctl ≠ .idle
      ∧ ({ s0 with ctl := .latch, inputs := [.resetInput] } : State).ctl ≠ .idle := by decide

/-- A byte source of 4 bytes that holds 3, and one that holds 4. -/
theorem test_witness_EnvironmentMovesInsideOperations :
    (∀ n, ({ s4 with rxq := [1, 2, 3] } : State).cfg.rxqDepth = some n → ({ s4 with rxq := [1, 2, 3] } : State).rxq.length < n)
      ∧ s4.cfg.rxqDepth = some 4 ∧ 4 ≤ ({ s4 with rxq := [1, 2, 3, 4] } : State).rxq.length
      ∧ ({ s4 with inputs := [.append 5] } : State).inputs = [.append 5]
      ∧ ({ s4 with inputs := [.advance 7] } : State).inputs = [.advance 7]
      ∧ ({ s4 with inputs := [.run] } : State).inputs = [.run]
      ∧ ({ s4 with ctl := .receive, inputs := [.read] } : State).inputs = [.read]
      ∧ ¬ (({ s4 with ctl := .receive } : State).ctl = .receive ∧ s4.rstate = .receivingData ∧ 4 ≤ s4.rxq.length) := by
  refine ⟨?_, rfl, by decide, rfl, rfl, rfl, rfl, by decide⟩
  intro n h
  cases h
  decide

/-- Inside RX_CHECK in ReceivingData, the source of 4 bytes full. -/
def fullWord : State := { s4 with rstate := .receivingData, rxq := [1, 2, 3, 4], ctl := .receive }

/-- R14, R63, R126: after the first read there is room, so the byte that arrives then is kept and the one after it is
lost; the fourth read stores the word and leaves what arrived. -/
theorem test_arrival_between_reads :
    (nextOf (step { fullWord with inputs := [.read] })).map (fun t => (t.rxq, t.val, t.ctl))
      = some ([2, 3, 4], 0x01, .wordRead1)
    ∧ (nextOf (step { fullWord with rxq := [2, 3, 4], val := 1, ctl := .wordRead1, inputs := [.append 5] })).map
        (fun t => t.rxq) = some [2, 3, 4, 5]
    ∧ (nextOf (step { fullWord with rxq := [2, 3, 4, 5], val := 1, ctl := .wordRead1, inputs := [.append 6] })).map
        (fun t => t.rxq) = some [2, 3, 4, 5]
    ∧ (nextOf (step { fullWord with rxq := [4, 5], val := 0x010203, ctl := .wordRead3, inputs := [.read] })).map
        (fun t => (t.rxq, t.iv[0]?, t.fill, t.ctl)) = some ([5], some 0x01020304, 1, .receive) := by decide

/-- The first read with exactly four bytes, each later place, and both cases of the store at FILL. -/
theorem test_witness_RxWordReadsByteByByte :
    fullWord.rxq = [1, 2, 3, 4] ∧ fullWord.fill < fullWord.iv.length ∧ fullWord.ctl = .receive
      ∧ fullWord.rstate = .receivingData ∧ 3 ≤ ([2, 3, 4] : List Byte).length
      ∧ ({ fullWord with inputs := [.read] } : State).inputs = [.read]
      ∧ ({ fullWord with rxq := [2, 3, 4], ctl := .wordRead1 } : State).inputs = []
      ∧ ({ fullWord with rxq := [3, 4], ctl := .wordRead2 } : State).inputs = []
      ∧ ({ fullWord with rxq := [4], ctl := .wordRead3 } : State).inputs = []
      ∧ fullWord.fill + 1 ≠ fullWord.iv.length
      ∧ ({ fullWord with fill := 1 } : State).fill + 1 = ({ fullWord with fill := 1 } : State).iv.length := by decide

/-- Two bytes arrive in the first gap (the second is lost), one in the third. -/
theorem test_witness_ArrivalsInsideAWordOnlyReachTheSource :
    fullWord.ctl = .receive ∧ fullWord.rstate = .receivingData ∧ fullWord.iv ≠ [] ∧ fullWord.rxq = 1 :: 2 :: 3 :: 4 :: []
      ∧ ({ fullWord with
            inputs := [.read, .append 5, .append 6, .read, .read, .append 7, .read] } : State).inputs
          = .read :: (([5, 6] : List Byte).map Input.append ++ .read :: (([] : List Byte).map Input.append ++ .read ::
              (([7] : List Byte).map Input.append ++ [.read]))) := by decide

/-- A byte source of 4 bytes with room for one more, and a full one, beside the units of each clause. -/
theorem test_witness_EnvironmentCommutesWithUnits :
    isTemplateUnit (.tLit 0x41) = true ∧ isTemplateUnit .tEol = true ∧ isHostOperation (.rxWord 1 2 3 4) = false
      ∧ isHostOperation .tL = false
      ∧ (∃ x, Instr.rxDiscard 1 = .rxDiscard x) ∧ ({ s4 with rxq := [1, 2, 3] } : State).rxq ≠ []
      ∧ (∀ n, ({ s4 with rxq := [1, 2, 3] } : State).cfg.rxqDepth = some n →
          ({ s4 with rxq := [1, 2, 3] } : State).rxq.length < n)
      ∧ ({ s4 with rxq := [0x3C, 2, 3, 4] } : State).rxq ≠ [] ∧ s4.cfg.rxqDepth = some 4
      ∧ 4 ≤ ({ s4 with rxq := [0x3C, 2, 3, 4] } : State).rxq.length := by
  refine ⟨rfl, rfl, rfl, rfl, ⟨1, rfl⟩, by decide, ?_, by decide, rfl, by decide⟩
  intro n h
  cases h
  decide

theorem test_witness_PollByUnitsEndsWherePollEnds :
    ({ s0 with inputs := [.pollByUnits] } : State).ctl = .idle
      ∧ ({ s0 with inputs := [.pollByUnits] } : State).inputs = [.pollByUnits] := ⟨rfl, rfl⟩

/-- One well-formed instruction of each stream, with an encoding. -/
theorem test_witness_DecodeOfEncode :
    (Instr.rxDiscard 0xFF).wf cfg0 = true ∧ encode (.rxDiscard 0xFF) = some (.wire .awaitingStart [0xFF])
      ∧ (Instr.tRsvd 0x25).wf cfg0 = true ∧ encode (.tRsvd 0x25) = some (.template [0x25, 0x25])
      ∧ (Instr.ovWrite 1 2).wf cfg0 = true
      ∧ encode (.ovWrite 1 2) = some (.command { code := 5, en := false, str := [], idx := 1, w := 2 }) :=
  ⟨by decide, rfl, by decide, rfl, by decide, rfl⟩

theorem test_witness_EncodeOfDecode :
    decodeWire .receivingData [1, 2, 3, 4, 5] = .ok (.rxWord 1 2 3 4, [5])
      ∧ decodeTemplate true [0x25, 0x75, 0x6C, 0x41] = (.ul, [0x41]) := ⟨rfl, rfl⟩

end Sys2Proof.Tests
end

/-! ## Statements of 00_scope.md: what no instruction changes, the host's and the environment's moves -/

namespace Sys2Proof.Machine

/-! ### What no instruction changes (R6, R21, R22) -/

/-- The configuration, the lengths of the two vectors, the clock and the pending moves. -/
def State.setting (s : State) : Params × Nat × Nat × Nat × List Input :=
  (s.cfg, s.iv.length, s.ov.length, s.clk, s.inputs)

/-- Where the outcome goes on, it goes on with the setting of `s`. -/
def KeepsSetting (s : State) (o : Out) : Prop := ∀ t, o = .next t → t.setting = s.setting

@[simp] theorem keepsSetting_next {s t : State} : KeepsSetting s (.next t) ↔ t.setting = s.setting := by
  simp [KeepsSetting]

@[simp] theorem keepsSetting_fault (s : State) (r : Fault) : KeepsSetting s (.fault r) := by
  simp [KeepsSetting]

@[simp] theorem keepsSetting_refused (s : State) (r : Refusal) : KeepsSetting s (.refused r) := by
  simp [KeepsSetting]

theorem KeepsSetting.andThen {s : State} {o : Out} {f : State → Out} (ho : KeepsSetting s o)
    (hf : ∀ u, KeepsSetting u (f u)) : KeepsSetting s (andThen o f) := by
  intro t h
  obtain ⟨u, hu, ht⟩ := andThen_eq_next.mp h
  exact (hf u t ht).trans (ho u hu)

theorem KeepsSetting.returnTo {s : State} {o : Out} (c : Ctl) (ho : KeepsSetting s o) :
    KeepsSetting s (returnTo c o) :=
  ho.andThen fun _ => keepsSetting_next.mpr rfl

@[simp] theorem render_setting (s : State) (conv : Word → Int) : (s.render conv).setting = s.setting := by
  simp [State.setting]

@[simp] theorem storeWord_setting (s : State) (v : Word) : (s.storeWord v).setting = s.setting := by
  simp [State.setting]

theorem execTU_keepsSetting (s : State) : KeepsSetting s (execTU s) :=
  keepsSetting_next.mpr (render_setting _ _)

theorem execUl_keepsSetting (s : State) : KeepsSetting s (execUl s) := by
  unfold execUl
  split
  · exact keepsSetting_next.mpr (render_setting _ _)
  · exact (execTU_keepsSetting s).andThen fun _ => keepsSetting_next.mpr rfl

theorem exec_templateUnit_keepsSetting {i : Instr} (h : isTemplateUnit i = true) (s : State) :
    KeepsSetting s (exec i s) := by
  cases i with
  | tLit | tTrunc | tEol => exact keepsSetting_next.mpr rfl
  | tL | tU | tD | tI => exact keepsSetting_next.mpr (render_setting _ _)
  | tRsvd => exact keepsSetting_refused _ _
  | ul => exact execUl_keepsSetting s
  | _ => cases h

/-- The template decoder answers template units only (R90). -/
theorem decodeTemplate_isTemplateUnit (fix : Bool) (q : List Byte) :
    isTemplateUnit (decodeTemplate fix q).1 = true := by
  have htag (t : Byte) : isTemplateUnit (decodeTag t) = true := by
    unfold decodeTag
    split_ifs <;> rfl
  fun_cases decodeTemplate fix q with
  | case1 | case2 | case3 | case4 => rfl
  | case5 => exact htag _

theorem scanLoop_keepsSetting : ∀ (n : Nat) (s : State), KeepsSetting s (scanLoop n s)
  | 0, _ => keepsSetting_next.mpr rfl
  | n + 1, s => by
    rw [scanLoop_turn]
    split_ifs
    · exact keepsSetting_next.mpr rfl
    · exact keepsSetting_next.mpr rfl
    · exact (exec_templateUnit_keepsSetting (decodeTemplate_isTemplateUnit _ _) s).andThen (scanLoop_keepsSetting n)

theorem txSendOp_keepsSetting (s : State) : KeepsSetting s (txSendOp s) := by
  have hscan : KeepsSetting s (scanLoop s.tpl.length s.scanStart) := scanLoop_keepsSetting _ s.scanStart
  exact (hscan.andThen (exec_templateUnit_keepsSetting (i := .tEol) rfl)).returnTo s.ctl

theorem execRxDiscard_keepsSetting (b : Byte) (s : State) : KeepsSetting s (execRxDiscard b s) := by
  unfold execRxDiscard
  split
  · exact keepsSetting_fault _ _
  · exact keepsSetting_next.mpr rfl

theorem execRxStart_keepsSetting (s : State) : KeepsSetting s (execRxStart s) := by
  unfold execRxStart
  split
  · exact keepsSetting_fault _ _
  · exact keepsSetting_next.mpr rfl

theorem execRxWord_keepsSetting (a b c d : Byte) (s : State) : KeepsSetting s (execRxWord a b c d s) := by
  rcases execRxWord_cases a b c d s with ⟨-, h⟩ | ⟨-, h⟩ | ⟨-, -, h⟩ <;> rw [h]
  · exact keepsSetting_fault _ _
  · exact keepsSetting_refused _ _
  · exact keepsSetting_next.mpr (storeWord_setting _ _)

theorem dataLoop_keepsSetting : ∀ (n : Nat) (s : State), KeepsSetting s (dataLoop n s)
  | 0, _ => keepsSetting_next.mpr rfl
  | n + 1, s => by
    unfold dataLoop
    split
    · refine (execRxWord_keepsSetting _ _ _ _ s).andThen fun u => ?_
      split
      · exact keepsSetting_next.mpr rfl
      · exact dataLoop_keepsSetting n u
    · exact keepsSetting_next.mpr rfl

theorem rxCheckOp_keepsSetting (s : State) : KeepsSetting s (rxCheckOp s) := by
  refine KeepsSetting.returnTo s.ctl ?_
  cases s.rstate with
  | awaitingStart =>
    simp only [awaitLoop_eq _ s le_rfl, keepsSetting_next]
    split <;> rfl
  | receivingData => exact dataLoop_keepsSetting _ s

theorem execPoll_keepsSetting (s : State) : KeepsSetting s (execPoll s) := by
  unfold execPoll
  split
  · exact keepsSetting_next.mpr rfl
  · refine (rxCheckOp_keepsSetting s).andThen fun r => ?_
    dsimp only
    split
    · have hsend : KeepsSetting r (txSendOp r.sampleClock) := txSendOp_keepsSetting r.sampleClock
      exact hsend.andThen fun _ => keepsSetting_next.mpr rfl
    · exact keepsSetting_next.mpr rfl

theorem execSetTemplate_keepsSetting (str : List Byte) (s : State) : KeepsSetting s (execSetTemplate str s) := by
  unfold execSetTemplate
  split
  · exact keepsSetting_next.mpr rfl
  · exact keepsSetting_refused _ _

theorem execIvRead_keepsSetting (idx : Nat) (s : State) : KeepsSetting s (execIvRead idx s) := by
  unfold execIvRead
  split
  · exact keepsSetting_next.mpr rfl
  · exact keepsSetting_refused _ _

theorem execOvRead_keepsSetting (idx : Nat) (s : State) : KeepsSetting s (execOvRead idx s) := by
  unfold execOvRead
  split
  · exact keepsSetting_next.mpr rfl
  · exact keepsSetting_refused _ _

theorem execOvWrite_keepsSetting (idx : Nat) (w : Word) (s : State) : KeepsSetting s (execOvWrite idx w s) := by
  unfold execOvWrite
  split
  · simp [State.setting]
  · exact keepsSetting_refused _ _

theorem execReset_keepsSetting (tpl : List Byte) (interval : Nat) (en : Option Bool) (s : State) :
    KeepsSetting s (execReset tpl interval en s) := by
  unfold execReset
  split_ifs
  · exact keepsSetting_refused _ _
  · exact keepsSetting_next.mpr rfl
  · exact keepsSetting_refused _ _

theorem exec_keepsSetting (i : Instr) (s : State) : KeepsSetting s (exec i s) := by
  cases i with
  | rxDiscard b => exact execRxDiscard_keepsSetting b s
  | rxStart => exact execRxStart_keepsSetting s
  | rxWord a b c d => exact execRxWord_keepsSetting a b c d s
  | tLit | tL | tU | tD | tI | tRsvd | tTrunc | tEol | ul => exact exec_templateUnit_keepsSetting rfl s
  | poll => exact execPoll_keepsSetting s
  | takeUpdated | setEnabled => exact keepsSetting_next.mpr rfl
  | setTemplate str => exact execSetTemplate_keepsSetting str s
  | ivRead idx => exact execIvRead_keepsSetting idx s
  | ovWrite idx w => exact execOvWrite_keepsSetting idx w s
  | ovRead idx => exact execOvRead_keepsSetting idx s
  | hRsvd => exact keepsSetting_refused _ _
  | reset tpl interval en => exact execReset_keepsSetting tpl interval en s
  | rxCheck => exact rxCheckOp_keepsSetting s
  | txSend => exact txSendOp_keepsSetting s

/-- What an instruction leaves unchanged, field by field (R6, R21, R22, R36, R39). -/
theorem exec_setting {i : Instr} {s t : State} (h : exec i s = .next t) :
    t.cfg = s.cfg ∧ t.iv.length = s.iv.length ∧ t.ov.length = s.ov.length ∧ t.clk = s.clk ∧ t.inputs = s.inputs := by
  simpa [State.setting] using exec_keepsSetting i s t h

/-- Settles O41: every shared operation keeps the setting, the two loops by induction on their bound. -/
theorem nothingChangesTheConfiguration : Obligations.NothingChangesTheConfiguration :=
  fun _ _ _ h => exec_setting h

/-! ### Units and the environment's part of the state -/

theorem andThen_congr {o : Out} {f g : State → Out} (h : ∀ t, o = .next t → f t = g t) :
    andThen o f = andThen o g := by
  cases o with
  | next t => exact h t rfl
  | fault | refused => rfl

/-- The state with the byte source, the clock and the pending moves that the environment gives it. -/
def State.withEnv (s : State) (q : List Byte) (c : Nat) (l : List Input) : State :=
  { s with rxq := q, clk := c, inputs := l }

theorem render_withEnv (s : State) (q : List Byte) (c : Nat) (l : List Input) (conv : Word → Int) :
    (s.withEnv q c l).render conv = (s.render conv).withEnv q c l := by
  simp only [render_eq]; rfl

theorem storeWord_withEnv (s : State) (q : List Byte) (c : Nat) (l : List Input) (v : Word) :
    (s.withEnv q c l).storeWord v = (s.storeWord v).withEnv q c l := by
  unfold State.storeWord
  dsimp only
  rw [apply_ite (fun u : State => u.withEnv q c l)]
  rfl

/-- A template unit neither reads nor writes the byte source, the clock and the pending moves. -/
theorem exec_templateUnit_withEnv {i : Instr} (h : isTemplateUnit i = true) (s : State) (q : List Byte) (c : Nat)
    (l : List Input) :
    exec i (s.withEnv q c l) = andThen (exec i s) fun t => .next (t.withEnv q c l) := by
  have htag (k : Nat) (conv : Word → Int) :
      ((s.withEnv q c l).tiAdvance k).render conv = ((s.tiAdvance k).render conv).withEnv q c l :=
    render_withEnv (s.tiAdvance k) q c l conv
  cases i with
  | tLit | tRsvd | tTrunc | tEol => rfl
  | tL | tU | tD | tI => exact congrArg _ (htag 2 _)
  | ul =>
    have hcfg : (s.withEnv q c l).cfg = s.cfg := rfl
    simp only [exec, execUl, execTU, execTLit, htag, hcfg, andThen_next]
    split <;> rfl
  | _ => cases h

/-- A template unit leaves the byte source as it is. -/
theorem exec_templateUnit_rxq {i : Instr} (h : isTemplateUnit i = true) {s t : State} (ht : exec i s = .next t) :
    t.rxq = s.rxq := by
  have hself := exec_templateUnit_withEnv h s s.rxq s.clk s.inputs
  rw [show s.withEnv s.rxq s.clk s.inputs = s from rfl, ht, andThen_next] at hself
  injection hself with e
  rw [e]
  rfl

/-- A wire or template unit neither reads nor writes the clock and the pending moves. -/
theorem exec_unit_withEnv {i : Instr} (h : isHostOperation i = false) (s : State) (c : Nat) (l : List Input) :
    exec i (s.withEnv s.rxq c l) = andThen (exec i s) fun t => .next (t.withEnv t.rxq c l) := by
  have havail : (s.withEnv s.rxq c l).rxAvail = s.rxAvail := rfl
  have hnIn : (s.withEnv s.rxq c l).nIn = s.nIn := rfl
  cases i with
  | rxDiscard b =>
    simp only [exec, execRxDiscard, havail]
    split <;> rfl
  | rxStart =>
    simp only [exec, execRxStart, havail]
    split <;> rfl
  | rxWord a b c' d =>
    simp only [exec, execRxWord, havail, hnIn]
    split_ifs
    · rfl
    · rfl
    · have hstore := storeWord_withEnv (s.rxDrop 4) (s.rxDrop 4).rxq c l (assemble a b c' d)
      rw [andThen_next, storeWord_rxq, ← hstore]
      rfl
  | tLit | tL | tU | tD | tI | tRsvd | tTrunc | tEol | ul =>
    rw [exec_templateUnit_withEnv rfl]
    exact andThen_congr fun t ht => by rw [exec_templateUnit_rxq rfl ht]
  | _ => cases h

theorem exec_unit_setInputs {i : Instr} (h : isHostOperation i = false) (s : State) (l : List Input) :
    exec i (s.setInputs l) = andThen (exec i s) fun t => .next (t.setInputs l) := by
  refine (exec_unit_withEnv h s s.clk l).trans (andThen_congr fun t ht => ?_)
  obtain ⟨-, -, -, hclk, -⟩ := exec_setting ht
  rw [← hclk]
  rfl

theorem exec_unit_clkAdvance {i : Instr} (h : isHostOperation i = false) (s : State) (ms : Nat) :
    exec i (s.clkAdvance ms) = andThen (exec i s) fun t => .next (t.clkAdvance ms) := by
  refine (exec_unit_withEnv h s _ s.inputs).trans (andThen_congr fun t ht => ?_)
  obtain ⟨hcfg, -, -, hclk, hin⟩ := exec_setting ht
  rw [← hcfg, ← hclk, ← hin]
  rfl

/-! ### The capacity of the byte source (R6, log 10) -/

theorem rxFull_eq_false_iff (s : State) :
    s.rxFull = false ↔ ∀ n, s.cfg.rxqDepth = some n → s.rxq.length < n := by
  unfold State.rxFull
  split <;> simp_all

theorem rxAppend_of_room {s : State} (b : Byte) (h : ∀ n, s.cfg.rxqDepth = some n → s.rxq.length < n) :
    s.rxAppend b = { s with rxq := s.rxq ++ [b] } := by
  simp [State.rxAppend, (rxFull_eq_false_iff s).mpr h]

theorem rxAppend_of_full {s : State} (b : Byte) {n : Nat} (hn : s.cfg.rxqDepth = some n) (h : n ≤ s.rxq.length) :
    s.rxAppend b = s := by
  simp [State.rxAppend, State.rxFull, hn, h]

/-- An arrival touches the byte source only. -/
theorem rxAppend_eq_withEnv (s : State) (b : Byte) :
    s.rxAppend b = s.withEnv (s.rxAppend b).rxq s.clk s.inputs := by
  unfold State.rxAppend
  split <;> rfl

/-- What an arrival leaves in the source depends on the source and its capacity only. -/
theorem rxAppend_rxq_congr {s t : State} (hcfg : t.cfg = s.cfg) (hq : t.rxq = s.rxq) (b : Byte) :
    (t.rxAppend b).rxq = (s.rxAppend b).rxq := by
  have hfull : t.rxFull = s.rxFull := by simp only [State.rxFull, hcfg, hq]
  unfold State.rxAppend
  rw [hfull]
  split <;> simp [hq]

theorem exec_templateUnit_rxAppend {i : Instr} (h : isTemplateUnit i = true) (s : State) (b : Byte) :
    exec i (s.rxAppend b) = andThen (exec i s) fun t => .next (t.rxAppend b) := by
  rw [rxAppend_eq_withEnv, exec_templateUnit_withEnv h]
  refine andThen_congr fun t ht => ?_
  obtain ⟨hcfg, -, -, hclk, hin⟩ := exec_setting ht
  rw [rxAppend_eq_withEnv t, rxAppend_rxq_congr hcfg (exec_templateUnit_rxq h ht), hclk, hin]

/-- RX.DISCARD and RX.START take their byte from the head of the source, an arrival adds one at its tail. -/
theorem exec_byteUnit_rxAppend {i : Instr} {s : State} (b : Byte) (hi : (∃ x, i = .rxDiscard x) ∨ i = .rxStart)
    (hq : s.rxq ≠ []) (hroom : ∀ n, s.cfg.rxqDepth = some n → s.rxq.length < n) :
    exec i (s.rxAppend b) = andThen (exec i s) fun t => .next (t.rxAppend b) := by
  obtain ⟨x, q, hx⟩ := List.exists_cons_of_ne_nil hq
  have hroom' : ∀ n, s.cfg.rxqDepth = some n → q.length < n := fun n hn => by
    have := hroom n hn
    rw [hx, List.length_cons] at this
    omega
  have hx' : ({ s with rxq := s.rxq ++ [b] } : State).rxq = x :: (q ++ [b]) := by simp [hx]
  rw [rxAppend_of_room b hroom]
  rcases hi with ⟨y, rfl⟩ | rfl
  · simp only [exec, execRxDiscard_of_available y hx, execRxDiscard_of_available y hx', andThen_next]
    rw [rxAppend_of_room]
    exact hroom'
  · simp only [exec, execRxStart_of_available hx, execRxStart_of_available hx', andThen_next]
    rw [rxAppend_of_room]
    exact hroom'

/-- Settles O51: units and moves of the environment touch different parts of the state, or different ends of RXQ. -/
theorem environmentCommutesWithUnits : Obligations.EnvironmentCommutesWithUnits := by
  refine ⟨fun _ s b h => exec_templateUnit_rxAppend h s b, fun i s b hi hq => ⟨exec_byteUnit_rxAppend b hi hq, ?_⟩,
    fun _ s ms h => exec_unit_clkAdvance h s ms⟩
  intro n hn hfull
  rw [rxAppend_of_full b hn hfull]

/-! ### The block's own step and the pending moves -/

/-- What a step answers when it makes the move. -/
def Move.outcome : Move → Out
  | .run i s => exec i s
  | .read s => wordRead s
  | .done s => .next s

theorem step_eq_outcome (s : State) : step s = s.nextMove.outcome := by
  unfold step
  cases s.nextMove <;> rfl

theorem step_of_quiet {s : State} (h : s.inputs = []) : step s = s.blockMove.outcome := by
  rw [step_eq_outcome, State.nextMove, h]

theorem step_of_append {s : State} {b : Byte} {rest : List Input} (h : s.inputs = .append b :: rest) :
    step s = .next ((s.setInputs rest).rxAppend b) := by
  rw [step_eq_outcome, State.nextMove, h]
  rfl

theorem step_of_advance {s : State} {ms : Nat} {rest : List Input} (h : s.inputs = .advance ms :: rest) :
    step s = .next ((s.setInputs rest).clkAdvance ms) := by
  rw [step_eq_outcome, State.nextMove, h]
  rfl

theorem step_of_run {s : State} {rest : List Input} (h : s.inputs = .run :: rest) :
    step s = (s.setInputs rest).blockMove.outcome := by
  rw [step_eq_outcome, State.nextMove, h]

theorem step_of_read {s : State} {rest : List Input} (h : s.inputs = .read :: rest) :
    step s = (s.setInputs rest).readMove.outcome := by
  rw [step_eq_outcome, State.nextMove, h]

theorem step_of_command {s : State} {c : Command} {rest : List Input} (h : s.inputs = .command c :: rest)
    (hc : s.ctl = .idle) : step s = exec (decodeCommand c) (s.setInputs rest) := by
  rw [step_eq_outcome, State.nextMove, h]
  simp only [hc, if_true, Move.outcome]

theorem step_of_pollByUnits {s : State} {rest : List Input} (h : s.inputs = .pollByUnits :: rest)
    (hc : s.ctl = .idle) : step s = .next (s.setInputs rest).pollBegin := by
  rw [step_eq_outcome, State.nextMove, h]
  simp only [hc, if_true, Move.outcome]

theorem step_of_resetInput {s : State} {rest : List Input} (h : s.inputs = .resetInput :: rest)
    (hc : s.ctl = .idle) : step s = exec (resetInstr s.cfg) (s.setInputs rest) := by
  rw [step_eq_outcome, State.nextMove, h]
  simp only [hc, if_true, Move.outcome]

/-- A host operation that is pending inside another does not come to pass (log 12). -/
theorem step_of_waiting {s : State} {i : Input} {rest : List Input} (hs : s.inputs = i :: rest)
    (hi : (∃ c, i = .command c) ∨ i = .pollByUnits ∨ i = .resetInput) (hc : s.ctl ≠ .idle) :
    step s = s.blockMove.outcome := by
  rw [step_eq_outcome, State.nextMove, hs]
  rcases hi with ⟨c, rfl⟩ | rfl | rfl <;> simp only [if_neg hc]

/-- The wire decoder answers wire units only (R82). -/
theorem decodeWire_isUnit {m : RState} {q rest : List Byte} {i : Instr} (h : decodeWire m q = .ok (i, rest)) :
    isHostOperation i = false := by
  unfold decodeWire at h
  split at h <;> cases h
  · split <;> rfl
  · rfl

theorem isTemplateUnit_isUnit {i : Instr} (h : isTemplateUnit i = true) : isHostOperation i = false := by
  cases i with
  | tLit | tL | tU | tD | tI | tRsvd | tTrunc | tEol | ul => rfl
  | _ => cases h

theorem readInto_setInputs (c : Ctl) (s : State) (l : List Input) :
    readInto c (s.setInputs l) = andThen (readInto c s) fun t => .next (t.setInputs l) := by
  unfold readInto
  simp only [setInputs_rxq]
  split <;> rfl

theorem storeWord_setInputs (s : State) (l : List Input) (v : Word) :
    (s.setInputs l).storeWord v = (s.storeWord v).setInputs l := by
  refine (storeWord_withEnv s s.rxq s.clk l v).trans ?_
  simp [State.withEnv, State.setInputs]

/-- A single read of RX.WORD neither reads nor writes the pending moves. -/
theorem wordRead_setInputs (s : State) (l : List Input) :
    wordRead (s.setInputs l) = andThen (wordRead s) fun t => .next (t.setInputs l) := by
  have hnIn : (s.setInputs l).nIn = s.nIn := rfl
  have hfirst : readInto .wordRead1 (s.setInputs l).clearVal
      = andThen (readInto .wordRead1 s.clearVal) fun t => .next (t.setInputs l) :=
    readInto_setInputs .wordRead1 s.clearVal l
  unfold wordRead
  simp only [setInputs_ctl, hnIn]
  cases s.ctl with
  | wordRead1 | wordRead2 => exact readInto_setInputs _ s l
  | wordRead3 =>
    dsimp only
    split
    · rfl
    · rw [readInto_setInputs, andThen_assoc, andThen_assoc]
      exact andThen_congr fun t _ => congrArg _ (storeWord_setInputs t l t.val)
  | idle | receive | gate | send | sendEnd | latch =>
    dsimp only
    split
    · rfl
    · exact hfirst

theorem gateStep_setInputs (s : State) (l : List Input) :
    (s.setInputs l).gateStep = s.gateStep.setInputs l := by
  unfold State.gateStep
  dsimp only
  rw [apply_ite (fun u : State => u.setInputs l)]
  rfl

/-- The block's own step neither reads nor writes the pending moves. -/
theorem blockMove_setInputs (s : State) (l : List Input) :
    (s.setInputs l).blockMove.outcome = andThen s.blockMove.outcome fun t => .next (t.setInputs l) := by
  unfold State.blockMove
  simp only [setInputs_ctl]
  cases s.ctl with
  | idle | latch => rfl
  | receive =>
    simp only [setInputs_rstate, setInputs_rxq]
    cases h : decodeWire s.rstate s.rxq with
    | ok r => exact exec_unit_setInputs (decodeWire_isUnit h) s l
    | error e => rfl
  | wordRead1 | wordRead2 | wordRead3 => exact wordRead_setInputs s l
  | gate => exact congrArg _ (gateStep_setInputs s l)
  | send =>
    have hunit := isTemplateUnit_isUnit (decodeTemplate_isTemplateUnit s.cfg.tagUlFix (s.tpl.drop s.ti))
    exact exec_unit_setInputs hunit s l
  | sendEnd => exact exec_unit_setInputs (i := .tEol) rfl s l

/-- A step of the block with any moves pending is its step with none pending, the moves left as they are. -/
theorem blockMove_eq_quiet_step (s : State) (l : List Input) :
    (s.setInputs l).blockMove.outcome = andThen (step (s.setInputs [])) fun t => .next (t.setInputs l) := by
  rw [step_of_quiet rfl]
  exact blockMove_setInputs (s.setInputs []) l

/-- Settles O46: a step between operations takes the pending host operation. -/
theorem stepRunsThePendingHostOperation : Obligations.StepRunsThePendingHostOperation := by
  intro s rest hc
  refine ⟨fun c h => step_of_command h hc, fun h => ?_, fun h => step_of_resetInput h hc⟩
  rw [step_of_pollByUnits h hc]
  rfl

/-- Settles O47: inside an operation the block steps, whatever host operation is pending. -/
theorem hostOperationWaitsForTheOneInProgress : Obligations.HostOperationWaitsForTheOneInProgress := by
  intro s i rest hc hs hi
  rw [step_of_waiting hs hi hc]
  exact blockMove_eq_quiet_step s s.inputs

/-- Settles O48: sender and clock move at any place, and the block steps when it is asked to. -/
theorem environmentMovesInsideOperations : Obligations.EnvironmentMovesInsideOperations := by
  intro s rest
  refine ⟨fun b h hroom => ?_, fun b n h hn hfull => ?_, fun ms h => step_of_advance h, fun h => ?_,
    fun h hword => ?_⟩
  · rw [step_of_append h, rxAppend_of_room b (s := s.setInputs rest) hroom]
    rfl
  · rw [step_of_append h, rxAppend_of_full b (s := s.setInputs rest) hn hfull]
    rfl
  · rw [step_of_run h]
    exact blockMove_eq_quiet_step s rest
  · have hblock : (s.setInputs rest).readMove = (s.setInputs rest).blockMove := if_neg hword
    rw [step_of_read h, hblock]
    exact blockMove_eq_quiet_step s rest

/-! ### RX.WORD by single reads (R14, R63, R126) -/

/-- Shifting the first byte into a cleared VAL. -/
theorem shiftIn_zero (x : Byte) : shiftIn 0 x = x.zeroExtend 32 := by
  simp [shiftIn]

theorem blockMove_of_readsLeft {s : State} (h : 0 < readsLeft s.ctl) : s.blockMove = .read s := by
  unfold State.blockMove
  cases hc : s.ctl with
  | wordRead1 | wordRead2 | wordRead3 => rfl
  | idle | receive | gate | send | sendEnd | latch => rw [hc] at h; cases h

theorem step_of_readsLeft {s : State} (h : 0 < readsLeft s.ctl) (hs : s.inputs = []) : step s = wordRead s := by
  rw [step_of_quiet hs, blockMove_of_readsLeft h]
  rfl

/-- A read move where DATA_LOOP's test finds a whole word takes its first byte (R123, log 8). -/
theorem step_of_firstRead {s : State} {rest : List Input} (hs : s.inputs = .read :: rest) (hc : s.ctl = .receive)
    (hr : s.rstate = .receivingData) (hq : 4 ≤ s.rxq.length) : step s = wordRead (s.setInputs rest) := by
  have hread : (s.setInputs rest).readMove = .read (s.setInputs rest) := if_pos ⟨hc, hr, hq⟩
  rw [step_of_read hs, hread]
  rfl

/-- A read move inside RX.WORD takes its next byte. -/
theorem step_of_nextRead {s : State} {rest : List Input} (hs : s.inputs = .read :: rest)
    (h : 0 < readsLeft s.ctl) : step s = wordRead (s.setInputs rest) := by
  have hc : s.ctl ≠ .receive := fun e => by rw [e] at h; cases h
  have hread : (s.setInputs rest).readMove = (s.setInputs rest).blockMove := if_neg fun e => hc e.1
  rw [step_of_read hs, hread, blockMove_of_readsLeft (s := s.setInputs rest) h]
  rfl

/-- Settles O49: each read is `wordRead` at its place, and the fourth stores the word. -/
theorem rxWordReadsByteByByte : Obligations.RxWordReadsByteByByte := by
  intro s x q hq hfill
  have hiv : s.iv ≠ [] := List.length_pos_iff.mp (by omega)
  refine ⟨fun rest hc hr hlen hs => ?_, fun hc hs => ?_, fun hc hs => ?_, fun hc hs => ?_⟩
  · have hq' : (s.setInputs rest).rxq = x :: q := hq
    rw [step_of_firstRead hs hc hr (by rw [hq, List.length_cons]; omega), wordRead_of_available hq' hiv,
      setInputs_ctl, hc, shiftIn_zero]
    rfl
  · rw [step_of_readsLeft (by rw [hc]; decide) hs, wordRead_of_available hq hiv, hc]
    rfl
  · rw [step_of_readsLeft (by rw [hc]; decide) hs, wordRead_of_available hq hiv, hc]
    rfl
  · rw [step_of_readsLeft (by rw [hc]; decide) hs, wordRead_of_available hq hiv, hc]
    exact congrArg _ (storeWord_eq _ _ hfill)

/-! ### Arrivals between the reads of one RX.WORD (R14, log 10) -/

theorem run_succ_of_step {s t : State} (n : Nat) (h : step s = .next t) :
    Sys2Proof.core.run (n + 1) s = Sys2Proof.core.run n t := by
  simp only [Host.Core.run, Sys2Proof.core, h]

/-- Arrivals touch the byte source only. -/
theorem arrive_eq_withEnv (s : State) (l : List Byte) : s.arrive l = s.withEnv (s.arrive l).rxq s.clk s.inputs := by
  induction l generalizing s with
  | nil => rfl
  | cons b l ih =>
    have hb := rxAppend_eq_withEnv s b
    calc (s.rxAppend b).arrive l
        = (s.rxAppend b).withEnv ((s.rxAppend b).arrive l).rxq (s.rxAppend b).clk (s.rxAppend b).inputs := ih _
      _ = s.withEnv ((s.rxAppend b).arrive l).rxq s.clk s.inputs := by
        rw [rxAppend_clk, rxAppend_inputs]
        generalize ((s.rxAppend b).arrive l).rxq = q
        rw [hb]
        rfl

/-- Arrivals only lengthen the byte source at its tail. -/
theorem arrive_rxq_append (s : State) (l : List Byte) : ∃ m, (s.arrive l).rxq = s.rxq ++ m := by
  induction l generalizing s with
  | nil => exact ⟨[], (List.append_nil _).symm⟩
  | cons b l ih =>
    obtain ⟨m, hm⟩ := ih (s.rxAppend b)
    have hb : ∃ k, (s.rxAppend b).rxq = s.rxq ++ k := by
      unfold State.rxAppend
      split
      · exact ⟨[], (List.append_nil _).symm⟩
      · exact ⟨[b], rfl⟩
    obtain ⟨k, hk⟩ := hb
    exact ⟨k ++ m, by rw [← List.append_assoc, ← hk]; exact hm⟩

/-- `u` with RX.WORD in progress: the place of the block, VAL and the pending moves. -/
def State.inWord (u : State) (c : Ctl) (v : Word) (l : List Input) : State :=
  { u with ctl := c, val := v, inputs := l }

theorem rxAppend_inWord (u : State) (c : Ctl) (v : Word) (l : List Input) (b : Byte) :
    (u.inWord c v l).rxAppend b = (u.rxAppend b).inWord c v l := by
  unfold State.rxAppend
  rw [apply_ite (fun t : State => t.inWord c v l)]
  rfl

/-- Pending arrivals come one a step. -/
theorem run_arrivals (u : State) (c : Ctl) (v : Word) (l : List Byte) (rest : List Input) (n : Nat) :
    Sys2Proof.core.run (l.length + n) (u.inWord c v (l.map Input.append ++ rest))
      = Sys2Proof.core.run n ((u.arrive l).inWord c v rest) := by
  induction l generalizing u with
  | nil => rw [List.length_nil, Nat.zero_add]; rfl
  | cons b l ih =>
    have hstep : step (u.inWord c v ((b :: l).map Input.append ++ rest))
        = .next ((u.rxAppend b).inWord c v (l.map Input.append ++ rest)) := by
      rw [step_of_append rfl, ← rxAppend_inWord]
      rfl
    rw [List.length_cons, Nat.add_right_comm, run_succ_of_step _ hstep]
    exact ih (u.rxAppend b)

/-- A gap between two reads of RX.WORD and the read that ends it. -/
theorem run_gap {u t : State} {c : Ctl} {v : Word} {l : List Byte} {rest : List Input} (n : Nat)
    (hc : 0 < readsLeft c) (h : wordRead ((u.arrive l).inWord c v rest) = .next t) :
    Sys2Proof.core.run (l.length + (n + 1)) (u.inWord c v (l.map Input.append ++ .read :: rest))
      = Sys2Proof.core.run n t := by
  have hstep : step ((u.arrive l).inWord c v (.read :: rest)) = .next t := by
    rw [step_of_nextRead (s := (u.arrive l).inWord c v (.read :: rest)) rfl hc]
    exact h
  rw [run_arrivals, run_succ_of_step n hstep]

theorem rxDrop_one_rxq {s : State} {x : Byte} {q : List Byte} (h : s.rxq = x :: q) : (s.rxDrop 1).rxq = q := by
  rw [rxDrop_rxq, h, List.drop_one, List.tail_cons]

/-- With RX.WORD in progress the second and the third read move the block to the next place. -/
theorem wordRead_inWord {u : State} {x : Byte} {q : List Byte} {c c' : Ctl} (v : Word) (l : List Input)
    (hc : c = .wordRead1 ∧ c' = .wordRead2 ∨ c = .wordRead2 ∧ c' = .wordRead3) (hq : u.rxq = x :: q)
    (hiv : u.iv ≠ []) : wordRead (u.inWord c v l) = .next ((u.rxDrop 1).inWord c' (shiftIn v x) l) := by
  have hq' : (u.inWord c v l).rxq = x :: q := hq
  rw [wordRead_of_available hq' hiv, ← rxDrop_one_rxq hq]
  rcases hc with ⟨rfl, rfl⟩ | ⟨rfl, rfl⟩ <;> rfl

/-- With RX.WORD in progress the fourth read stores the word. -/
theorem wordRead_inWord_last {u : State} {x : Byte} {q : List Byte} (v : Word) (l : List Input)
    (hq : u.rxq = x :: q) (hiv : u.iv ≠ []) :
    wordRead (u.inWord .wordRead3 v l)
      = .next (((u.rxDrop 1).inWord .receive (shiftIn v x) l).storeWord (shiftIn v x)) := by
  have hq' : (u.inWord .wordRead3 v l).rxq = x :: q := hq
  rw [wordRead_of_available hq' hiv, ← rxDrop_one_rxq hq]
  rfl

/-- The first read, where DATA_LOOP's test finds a whole word. -/
theorem step_firstRead_inWord {s : State} {x : Byte} {q : List Byte} {rest : List Input}
    (hs : s.inputs = .read :: rest) (hc : s.ctl = .receive) (hr : s.rstate = .receivingData) (hiv : s.iv ≠ [])
    (hq : s.rxq = x :: q) (hlen : 4 ≤ s.rxq.length) :
    step s = .next ((s.rxDrop 1).inWord .wordRead1 (shiftIn 0 x) rest) := by
  have hq' : (s.setInputs rest).rxq = x :: q := hq
  rw [step_of_firstRead hs hc hr hlen, wordRead_of_available hq' hiv, setInputs_ctl, hc, ← rxDrop_one_rxq hq]
  rfl

/-- The state is `s` but for the byte source. -/
def State.SameButSource (s u : State) : Prop := ∃ q, u = { s with rxq := q }

theorem State.SameButSource.rxDrop {s u : State} (h : s.SameButSource u) (n : Nat) : s.SameButSource (u.rxDrop n) := by
  obtain ⟨q, rfl⟩ := h
  exact ⟨q.drop n, rfl⟩

theorem State.SameButSource.arrive {s u : State} (h : s.SameButSource u) (l : List Byte) :
    s.SameButSource (u.arrive l) := by
  obtain ⟨q, rfl⟩ := h
  exact ⟨_, arrive_eq_withEnv _ l⟩

/-- RX.WORD's store does not look at the source, nor at the VAL it overwrites. -/
theorem storeWord_of_sameButSource {s u : State} (h : s.SameButSource u) (v w : Word) (l : List Input) :
    (u.inWord s.ctl v l).storeWord w = { ((s.setInputs l).rxDrop 4).storeWord w with rxq := u.rxq } := by
  obtain ⟨q, rfl⟩ := h
  have hstore := storeWord_withEnv ((s.setInputs l).rxDrop 4) q s.clk l w
  calc _ = (((s.setInputs l).rxDrop 4).withEnv q s.clk l).storeWord w := rfl
    _ = (((s.setInputs l).rxDrop 4).storeWord w).withEnv q s.clk l := hstore
    _ = _ := by simp [State.withEnv]

/-- Settles O50: three gaps with a read each, between a first read and RX.WORD's store, follow the source. -/
theorem arrivalsInsideAWordOnlyReachTheSource : Obligations.ArrivalsInsideAWordOnlyReachTheSource := by
  intro s a b c d q l1 l2 l3 hc hr hiv hq hs
  have h4 : 4 ≤ s.rxq.length := by simp [hq]
  set w1 := (s.rxDrop 1).arrive l1 with hw1
  set w2 := (w1.rxDrop 1).arrive l2 with hw2
  set w3 := (w2.rxDrop 1).arrive l3 with hw3
  obtain ⟨m1, hm1⟩ := arrive_rxq_append (s.rxDrop 1) l1
  obtain ⟨m2, hm2⟩ := arrive_rxq_append (w1.rxDrop 1) l2
  obtain ⟨m3, hm3⟩ := arrive_rxq_append (w2.rxDrop 1) l3
  have hq1 : w1.rxq = b :: (c :: d :: (q ++ m1)) := by rw [hm1, rxDrop_rxq, hq]; rfl
  have hq2 : w2.rxq = c :: (d :: (q ++ m1 ++ m2)) := by rw [hm2, rxDrop_rxq, hq1]; rfl
  have hq3 : w3.rxq = d :: (q ++ m1 ++ m2 ++ m3) := by rw [hm3, rxDrop_rxq, hq2]; rfl
  have hiv1 : w1.iv ≠ [] := by rwa [hw1, arrive_iv, rxDrop_iv]
  have hiv2 : w2.iv ≠ [] := by rwa [hw2, arrive_iv, rxDrop_iv]
  have hiv3 : w3.iv ≠ [] := by rwa [hw3, arrive_iv, rxDrop_iv]
  have hsame : s.SameButSource (w3.rxDrop 1) :=
    ((((((State.SameButSource.rxDrop ⟨s.rxq, rfl⟩ 1).arrive l1).rxDrop 1).arrive l2).rxDrop 1).arrive l3).rxDrop 1
  refine ⟨_, l1.length + (l2.length + (l3.length + (0 + 1) + 1) + 1) + 1,
    execRxWord_of_available a b c d (s := s.setInputs []) h4 hiv, ?_⟩
  rw [run_succ_of_step _ (step_firstRead_inWord hs hc hr hiv hq h4),
    run_gap _ (by decide) (wordRead_inWord _ _ (.inl ⟨rfl, rfl⟩) hq1 hiv1),
    run_gap _ (by decide) (wordRead_inWord _ _ (.inr ⟨rfl, rfl⟩) hq2 hiv2),
    run_gap _ (by decide) (wordRead_inWord_last _ _ hq3 hiv3), ← hc, storeWord_of_sameButSource hsame]
  rfl

end Sys2Proof.Machine

/-! ## Statements of 10_state.md: what each operation may write, the invariants, the transient state -/

namespace Sys2Proof.Machine

/-! ### Properties of where an outcome goes on -/

/-- Where the outcome goes on, the state has the property. -/
def Ensures (o : Out) (P : State → Prop) : Prop := ∀ t, o = .next t → P t

@[simp] theorem ensures_next {s : State} {P : State → Prop} : Ensures (.next s) P ↔ P s := by
  simp [Ensures]

@[simp] theorem ensures_fault (r : Fault) (P : State → Prop) : Ensures (.fault r) P := by
  simp [Ensures]

@[simp] theorem ensures_refused (r : Refusal) (P : State → Prop) : Ensures (.refused r) P := by
  simp [Ensures]

theorem Ensures.andThen {o : Out} {f : State → Out} {P Q : State → Prop} (ho : Ensures o P)
    (hf : ∀ u, P u → Ensures (f u) Q) : Ensures (andThen o f) Q := by
  intro t h
  obtain ⟨u, hu, ht⟩ := andThen_eq_next.mp h
  exact hf u (ho u hu) t ht

theorem Ensures.ite {c : Prop} [Decidable c] {o o' : Out} {P : State → Prop} (h : c → Ensures o P)
    (h' : ¬c → Ensures o' P) : Ensures (if c then o else o') P := by
  split
  · exact h ‹_›
  · exact h' ‹_›

/-! ### What the shared operations can do -/

/-- TX_SEND sends the line and leaves only its scan index and cursor besides (R151); a reserved tag is refused. -/
theorem txSendOp_eq (s : State) :
    ∃ n, txSendOp s = if scanOk s.tpl then .next { s with txs := s.txs ++ s.line, cur := 0, ti := n }
      else .refused .reservedTag := by
  cases h : scanOk s.tpl with
  | false =>
    refine ⟨0, ?_⟩
    rw [txSendOp, scanLoop_reserved s.tpl.length s.scanStart s.tpl rfl le_rfl h]
    rfl
  | true =>
    obtain ⟨t, ht, he⟩ := scanLoop_spec s.tpl.length s.scanStart s.tpl rfl le_rfl h
    refine ⟨t.ti, ?_⟩
    rw [txSendOp, ht, he]
    rfl

theorem txSendOp_eq_next {s t : State} (h : txSendOp s = .next t) :
    ∃ n, t = { s with txs := s.txs ++ s.line, cur := 0, ti := n } := by
  obtain ⟨n, hn⟩ := txSendOp_eq s
  rw [hn] at h
  split at h <;> cases h
  exact ⟨n, rfl⟩

/-- Everything POLL can do: nothing; RX_CHECK and the clock reading; or a line sent besides (R191). -/
theorem execPoll_cases {s t : State} (h : execPoll s = .next t) :
    t = s ∨ ∃ r, rxCheckOp s = .next r ∧ (t = r.sampleClock
      ∨ ∃ n, t = { r with now := r.clk, txs := r.txs ++ r.line, cur := 0, ti := n, lastSend := r.clk }) := by
  unfold execPoll at h
  split at h
  · cases h
    exact .inl rfl
  · obtain ⟨r, hr, h⟩ := andThen_eq_next.mp h
    refine .inr ⟨r, hr, ?_⟩
    dsimp only at h
    split at h
    · obtain ⟨u, hu, hlatch⟩ := andThen_eq_next.mp h
      cases hlatch
      obtain ⟨n, rfl⟩ := txSendOp_eq_next hu
      exact .inr ⟨n, rfl⟩
    · cases h
      exact .inl rfl

/-- DATA_LOOP ensures what each RX.WORD it executes keeps (R123); it executes them in ReceivingData only. -/
theorem dataLoop_ensures {P : State → Prop}
    (hword : ∀ u v, P u → u.rstate = .receivingData → P ((u.rxDrop 4).storeWord v)) :
    ∀ (n : Nat) (s : State), s.rstate = .receivingData → P s → Ensures (dataLoop n s) P
  | 0, _, _, h => ensures_next.mpr h
  | n + 1, s, hr, h => by
    unfold dataLoop
    split
    · next a b c d _ _ =>
      rcases execRxWord_cases a b c d s with ⟨-, e⟩ | ⟨-, e⟩ | ⟨-, -, e⟩ <;> rw [e]
      · exact ensures_fault _ _
      · exact ensures_refused _ _
      · rw [andThen_next]
        split
        · exact ensures_next.mpr (hword s _ h hr)
        · next hfill =>
          rw [storeWord_fill] at hfill
          refine dataLoop_ensures hword n _ ?_ (hword s _ h hr)
          rw [storeWord_rstate, if_neg hfill, rxDrop_rstate, hr]
    · exact ensures_next.mpr h

/-- RX_CHECK ensures what the end of AWAIT_LOOP, with and without a marker (R122), and each RX.WORD of DATA_LOOP
(R123) keep, through the return to its caller. -/
theorem rxCheckOp_ensures {P Q : State → Prop} {s : State} (h : P s)
    (hmarker : ∀ q : List Byte, q.length ≤ s.rxq.length →
      P { s with rxq := q, rstate := .receivingData, ctl := .gate })
    (hnone : P { s with rxq := [] })
    (hword : ∀ u v, P u → u.rstate = .receivingData → P ((u.rxDrop 4).storeWord v))
    (hreturn : ∀ u, P u → Q (u.setCtl s.ctl)) : Ensures (rxCheckOp s) Q := by
  refine Ensures.andThen (P := P) ?_ fun u hu => ensures_next.mpr (hreturn u hu)
  cases hr : s.rstate with
  | awaitingStart =>
    have hlen : ((s.rxq.dropWhile (· != startMarker)).drop 1).length ≤ s.rxq.length :=
      ((List.drop_sublist _ _).trans (List.dropWhile_sublist _)).length_le
    simp only [awaitLoop_eq _ s le_rfl, ensures_next]
    split
    · exact hmarker _ hlen
    · exact hnone
  | receivingData => exact dataLoop_ensures hword _ s hr h

theorem execIvRead_ensures {idx : Nat} {s : State} {P : State → Prop} (h : ∀ w, P (s.setResult (.word w))) :
    Ensures (execIvRead idx s) P := by
  unfold execIvRead
  split
  · exact ensures_next.mpr (h _)
  · exact ensures_refused _ _

theorem execOvRead_ensures {idx : Nat} {s : State} {P : State → Prop} (h : ∀ w, P (s.setResult (.word w))) :
    Ensures (execOvRead idx s) P := by
  unfold execOvRead
  split
  · exact ensures_next.mpr (h _)
  · exact ensures_refused _ _

/-- What RESET asks of its operands where it is not refused, and what it does (R250). -/
theorem execReset_eq_next {tpl : List Byte} {interval : Nat} {en : Option Bool} {s t : State}
    (h : execReset tpl interval en s = .next t) :
    interval < 2 ^ s.cfg.clkW ∧ templateOk s.cfg.tplMax tpl = true
      ∧ t = { s with rstate := .awaitingStart, fill := 0, updated := false, enabled := en.getD true,
                     interval := interval, lastSend := s.cfg.lastSendReset, tpl := tpl, ctl := .idle } := by
  unfold execReset at h
  split_ifs at h with hcfg htpl
  cases h
  exact ⟨Nat.lt_of_not_le fun hle => hcfg (.inr hle), htpl, rfl⟩

/-! ### What each instruction may write -/

/-- The state without what reception writes (R124 to R126). -/
def State.sansReception (s : State) : State :=
  { s with rxq := [], val := 0, iv := [], fill := 0, updated := false, rstate := .awaitingStart }

/-- The state without what transmission writes (R153, R154). -/
def State.sansTransmission (s : State) : State := { s with txs := [], ti := 0, cur := 0 }

/-- The state without the elements that the instruction may write, as 10_state lists the writers of each. -/
def State.unwritten (s : State) : Instr → State
  | .rxDiscard _ => { s with rxq := [] }
  | .rxStart => { s with rxq := [], rstate := .awaitingStart, ctl := .idle }
  | .rxWord _ _ _ _ => s.sansReception.setCtl .idle
  | .tLit _ | .tL | .tU | .tD | .tI | .tRsvd _ | .tTrunc | .tEol | .ul => s.sansTransmission.setCtl .idle
  | .poll => { s.sansReception.sansTransmission with now := 0, lastSend := 0 }
  | .takeUpdated => { s with updated := false, result := none }
  | .setEnabled _ => { s with enabled := false }
  | .setTemplate _ => { s with tpl := [] }
  | .ivRead _ | .ovRead _ => { s with result := none }
  | .ovWrite _ _ => { s with ov := [] }
  | .hRsvd => s
  | .reset _ _ _ =>
    { s with rstate := .awaitingStart, fill := 0, updated := false, enabled := false, interval := 0, lastSend := 0,
             tpl := [], ctl := .idle }
  | .rxCheck => s.sansReception
  | .txSend => s.sansTransmission

/-- Reception got from `s` to `t`: it wrote only its own elements, and did not clear UPDATED (R26, R129). -/
def State.Received (s t : State) : Prop :=
  t.sansReception.setCtl .idle = s.sansReception.setCtl .idle ∧ (s.updated = true → t.updated = true)

theorem State.Received.storeWord {s u : State} (h : s.Received u) (v : Word) :
    s.Received ((u.rxDrop 4).storeWord v) := by
  obtain ⟨hframe, hupd⟩ := h
  refine ⟨Eq.trans ?_ hframe, fun e => ?_⟩
  · simp [State.sansReception, State.setCtl]
  · simp [hupd e]

theorem rxCheckOp_received (s : State) :
    Ensures (rxCheckOp s) fun t => t.sansReception = s.sansReception ∧ (s.updated = true → t.updated = true) :=
  rxCheckOp_ensures (P := s.Received) ⟨rfl, id⟩ (fun _ _ => ⟨rfl, id⟩) ⟨rfl, id⟩ (fun _ v hu _ => hu.storeWord v)
    fun _ hu => ⟨congrArg (fun w : State => w.setCtl s.ctl) hu.1, hu.2⟩

theorem render_sansTransmission (s : State) (conv : Word → Int) :
    (s.render conv).sansTransmission = s.sansTransmission := by
  rw [render_eq]
  rfl

theorem exec_templateUnit_unwritten {i : Instr} (h : isTemplateUnit i = true) (s : State) :
    Ensures (exec i s) fun t => t.sansTransmission.setCtl .idle = s.sansTransmission.setCtl .idle := by
  have htag (k : Nat) (conv : Word → Int) : (((s.tiAdvance k).render conv).sansTransmission).setCtl .idle
      = s.sansTransmission.setCtl .idle :=
    congrArg (fun w : State => w.setCtl .idle) (render_sansTransmission (s.tiAdvance k) conv)
  cases i with
  | tLit | tTrunc | tEol => exact ensures_next.mpr rfl
  | tL | tU | tD | tI => exact ensures_next.mpr (htag 2 _)
  | tRsvd => exact ensures_refused _ _
  | ul => exact .ite (fun _ => ensures_next.mpr (htag 3 _)) fun _ => ensures_next.mpr (htag 2 _)
  | _ => cases h

/-- What the instruction may not write it leaves unchanged. -/
theorem exec_unwritten (i : Instr) (s : State) : Ensures (exec i s) fun t => t.unwritten i = s.unwritten i := by
  cases i with
  | rxDiscard | rxStart => exact .ite (fun _ => ensures_fault _ _) fun _ => ensures_next.mpr rfl
  | rxWord a b c d =>
    rcases execRxWord_cases a b c d s with ⟨-, h⟩ | ⟨-, h⟩ | ⟨-, -, h⟩ <;> rw [exec, h]
    · exact ensures_fault _ _
    · exact ensures_refused _ _
    · have hrefl : s.Received s := ⟨rfl, id⟩
      exact ensures_next.mpr (hrefl.storeWord _).1
  | tLit | tL | tU | tD | tI | tRsvd | tTrunc | tEol | ul => exact exec_templateUnit_unwritten rfl s
  | poll =>
    intro t h
    rcases execPoll_cases h with rfl | ⟨r, hr, rfl | ⟨n, rfl⟩⟩
    · rfl
    all_goals
      obtain ⟨hframe, -⟩ := rxCheckOp_received s r hr
      exact congrArg (fun w : State => { w.sansTransmission with now := 0, lastSend := 0 }) hframe
  | takeUpdated | setEnabled => exact ensures_next.mpr rfl
  | setTemplate | ovWrite => exact .ite (fun _ => ensures_next.mpr rfl) fun _ => ensures_refused _ _
  | ivRead => exact execIvRead_ensures fun _ => rfl
  | ovRead => exact execOvRead_ensures fun _ => rfl
  | hRsvd => exact ensures_refused _ _
  | reset =>
    intro t h
    obtain ⟨-, -, rfl⟩ := execReset_eq_next h
    rfl
  | rxCheck => exact fun t h => (rxCheckOp_received s t h).1
  | txSend =>
    intro t h
    obtain ⟨n, rfl⟩ := txSendOp_eq_next h
    rfl

/-! ### The writers of each element (R21 to R32) -/

/-- The instructions that receive words. -/
def ReceivesWords (i : Instr) : Prop := i = .poll ∨ i = .rxCheck ∨ ∃ a b c d, i = .rxWord a b c d

/-- RESET with some configuration. -/
def IsReset (i : Instr) : Prop := ∃ tpl n en, i = .reset tpl n en

/-- Receiving words does not clear UPDATED (R26). -/
theorem exec_updated_of_receivesWords {i : Instr} (hi : ReceivesWords i) {s t : State} (h : exec i s = .next t)
    (hs : s.updated = true) : t.updated = true := by
  rcases hi with rfl | rfl | ⟨a, b, c, d, rfl⟩
  · rcases execPoll_cases h with rfl | ⟨r, hr, rfl | ⟨n, rfl⟩⟩
    · exact hs
    all_goals exact (rxCheckOp_received s r hr).2 hs
  · exact (rxCheckOp_received s t h).2 hs
  · rcases execRxWord_cases a b c d s with ⟨-, e⟩ | ⟨-, e⟩ | ⟨-, -, e⟩ <;> cases e.symm.trans h
    simp [hs]

/-- TAKE_UPDATED and RESET leave UPDATED false (R193, R40). -/
theorem exec_updated_of_clearing {i : Instr} (hi : i = .takeUpdated ∨ IsReset i) {s t : State}
    (h : exec i s = .next t) : t.updated = false := by
  rcases hi with rfl | ⟨tpl, n, en, rfl⟩
  · cases h
    rfl
  · obtain ⟨-, -, rfl⟩ := execReset_eq_next h
    rfl

section
variable {i : Instr} {s t : State} (h : exec i s = .next t)
include h

theorem writers_of_iv (hne : t.iv ≠ s.iv) : ReceivesWords i := by
  have hframe := exec_unwritten i s t h
  cases i with
  | poll => exact .inl rfl
  | rxCheck => exact .inr (.inl rfl)
  | rxWord a b c d => exact .inr (.inr ⟨a, b, c, d, rfl⟩)
  | _ => exact absurd (congrArg State.iv hframe) hne

theorem writers_of_ov (hne : t.ov ≠ s.ov) : ∃ idx w, i = .ovWrite idx w := by
  have hframe := exec_unwritten i s t h
  cases i with
  | ovWrite idx w => exact ⟨idx, w, rfl⟩
  | _ => exact absurd (congrArg State.ov hframe) hne

theorem writers_of_updated (hne : t.updated ≠ s.updated) : ReceivesWords i ∨ i = .takeUpdated ∨ IsReset i := by
  have hframe := exec_unwritten i s t h
  cases i with
  | poll => exact .inl (.inl rfl)
  | rxCheck => exact .inl (.inr (.inl rfl))
  | rxWord a b c d => exact .inl (.inr (.inr ⟨a, b, c, d, rfl⟩))
  | takeUpdated => exact .inr (.inl rfl)
  | reset tpl n en => exact .inr (.inr ⟨tpl, n, en, rfl⟩)
  | _ => exact absurd (congrArg State.updated hframe) hne

theorem clearers_of_updated (hs : s.updated = true) (ht : t.updated = false) : i = .takeUpdated ∨ IsReset i := by
  refine (writers_of_updated h (by simp [hs, ht])).resolve_left fun hi => ?_
  simp [exec_updated_of_receivesWords hi h hs] at ht

theorem setters_of_updated (hs : s.updated = false) (ht : t.updated = true) : ReceivesWords i := by
  refine (writers_of_updated h (by simp [hs, ht])).resolve_right fun hi => ?_
  simp [exec_updated_of_clearing hi h] at ht

theorem writers_of_enabled (hne : t.enabled ≠ s.enabled) : (∃ en, i = .setEnabled en) ∨ IsReset i := by
  have hframe := exec_unwritten i s t h
  cases i with
  | setEnabled en => exact .inl ⟨en, rfl⟩
  | reset tpl n en => exact .inr ⟨tpl, n, en, rfl⟩
  | _ => exact absurd (congrArg State.enabled hframe) hne

theorem writers_of_lastSend (hne : t.lastSend ≠ s.lastSend) : i = .poll ∨ IsReset i := by
  have hframe := exec_unwritten i s t h
  cases i with
  | poll => exact .inl rfl
  | reset tpl n en => exact .inr ⟨tpl, n, en, rfl⟩
  | _ => exact absurd (congrArg State.lastSend hframe) hne

theorem writers_of_interval (hne : t.interval ≠ s.interval) : IsReset i := by
  have hframe := exec_unwritten i s t h
  cases i with
  | reset tpl n en => exact ⟨tpl, n, en, rfl⟩
  | _ => exact absurd (congrArg State.interval hframe) hne

theorem writers_of_tpl (hne : t.tpl ≠ s.tpl) : (∃ str, i = .setTemplate str) ∨ IsReset i := by
  have hframe := exec_unwritten i s t h
  cases i with
  | setTemplate str => exact .inl ⟨str, rfl⟩
  | reset tpl n en => exact .inr ⟨tpl, n, en, rfl⟩
  | _ => exact absurd (congrArg State.tpl hframe) hne

theorem writers_of_rstate (hne : t.rstate ≠ s.rstate) :
    i = .rxStart ∨ i = .poll ∨ i = .rxCheck ∨ (∃ a b c d, i = .rxWord a b c d) ∨ IsReset i := by
  have hframe := exec_unwritten i s t h
  cases i with
  | rxStart => exact .inl rfl
  | poll => exact .inr (.inl rfl)
  | rxCheck => exact .inr (.inr (.inl rfl))
  | rxWord a b c d => exact .inr (.inr (.inr (.inl ⟨a, b, c, d, rfl⟩)))
  | reset tpl n en => exact .inr (.inr (.inr (.inr ⟨tpl, n, en, rfl⟩)))
  | _ => exact absurd (congrArg State.rstate hframe) hne

theorem writers_of_fill (hne : t.fill ≠ s.fill) :
    i = .poll ∨ i = .rxCheck ∨ (∃ a b c d, i = .rxWord a b c d) ∨ IsReset i := by
  have hframe := exec_unwritten i s t h
  cases i with
  | poll => exact .inl rfl
  | rxCheck => exact .inr (.inl rfl)
  | rxWord a b c d => exact .inr (.inr (.inl ⟨a, b, c, d, rfl⟩))
  | reset tpl n en => exact .inr (.inr (.inr ⟨tpl, n, en, rfl⟩))
  | _ => exact absurd (congrArg State.fill hframe) hne

end

/-- Settles O42: an element outside an instruction's writes is unchanged, and UPDATED moves each way by its own
writers only. -/
theorem everyElementHasItsWriters : Obligations.EveryElementHasItsWriters := fun _ _ _ h =>
  ⟨writers_of_iv h, writers_of_ov h, clearers_of_updated h, setters_of_updated h, writers_of_enabled h,
    writers_of_lastSend h, writers_of_interval h, writers_of_tpl h, writers_of_rstate h, writers_of_fill h⟩

/-- Settles O37: RESET's frame, and the definition of the state after reset. -/
theorem resetValues : Obligations.ResetValues := by
  refine ⟨fun tpl interval en s t h => ?_, fun p => ⟨rfl, rfl, rfl, ?_, rfl, rfl, rfl, rfl, rfl⟩⟩
  · have hframe := exec_unwritten _ s t h
    have hrxq := congrArg State.rxq hframe
    have htxs := congrArg State.txs hframe
    have hclk := congrArg State.clk hframe
    exact ⟨hrxq, htxs, hclk⟩
  · cases h : p.enReset <;> simp [State.resetWith, h]

/-! ### What a step can do -/

/-- Everything a step can do: a move of the sender, of the clock or of the block, the first read of RX.WORD, or
between operations a host operation whole or the start of POLL by units (R13, R14). -/
theorem step_cases {s t : State} (h : step s = .next t) : ∃ l,
    (∃ b, t = (s.setInputs l).rxAppend b) ∨ (∃ ms, t = (s.setInputs l).clkAdvance ms)
      ∨ (s.setInputs l).blockMove.outcome = .next t
      ∨ ((s.ctl = .receive ∧ s.rstate = .receivingData ∧ 4 ≤ s.rxq.length) ∧ wordRead (s.setInputs l) = .next t)
      ∨ (s.ctl = .idle ∧ ∃ i, isHostOperation i = true ∧ exec i (s.setInputs l) = .next t)
      ∨ (s.ctl = .idle ∧ t = (s.setInputs l).pollBegin) := by
  have hcommand (c : Command) : isHostOperation (decodeCommand c) = true := by
    unfold decodeCommand
    split <;> rfl
  cases hs : s.inputs with
  | nil =>
    rw [step_of_quiet hs] at h
    exact ⟨s.inputs, .inr (.inr (.inl h))⟩
  | cons m rest =>
    have hwaiting (hm : (∃ c, m = .command c) ∨ m = .pollByUnits ∨ m = .resetInput) (hc : s.ctl ≠ .idle) :
        (s.setInputs s.inputs).blockMove.outcome = .next t :=
      (step_of_waiting hs hm hc).symm.trans h
    cases m with
    | append b =>
      cases (step_of_append hs).symm.trans h
      exact ⟨rest, .inl ⟨b, rfl⟩⟩
    | advance ms =>
      cases (step_of_advance hs).symm.trans h
      exact ⟨rest, .inr (.inl ⟨ms, rfl⟩)⟩
    | run => exact ⟨rest, .inr (.inr (.inl ((step_of_run hs).symm.trans h)))⟩
    | read =>
      rw [step_of_read hs] at h
      unfold State.readMove at h
      split at h
      case isTrue hword => exact ⟨rest, .inr (.inr (.inr (.inl ⟨hword, h⟩)))⟩
      case isFalse => exact ⟨rest, .inr (.inr (.inl h))⟩
    | command c =>
      by_cases hc : s.ctl = .idle
      · exact ⟨rest, .inr (.inr (.inr (.inr (.inl ⟨hc, _, hcommand c, (step_of_command hs hc).symm.trans h⟩))))⟩
      · exact ⟨s.inputs, .inr (.inr (.inl (hwaiting (.inl ⟨c, rfl⟩) hc)))⟩
    | pollByUnits =>
      by_cases hc : s.ctl = .idle
      · cases (step_of_pollByUnits hs hc).symm.trans h
        exact ⟨rest, .inr (.inr (.inr (.inr (.inr ⟨hc, rfl⟩))))⟩
      · exact ⟨s.inputs, .inr (.inr (.inl (hwaiting (.inr (.inl rfl)) hc)))⟩
    | resetInput =>
      by_cases hc : s.ctl = .idle
      · exact ⟨rest, .inr (.inr (.inr (.inr (.inl ⟨hc, _, rfl, (step_of_resetInput hs hc).symm.trans h⟩))))⟩
      · exact ⟨s.inputs, .inr (.inr (.inl (hwaiting (.inr (.inr rfl)) hc)))⟩

/-! ### The outbound log (R35, R55) -/

theorem txs_prefix_of_eq {s t : State} (h : t.txs = s.txs) : s.txs <+: t.txs := h ▸ List.prefix_rfl

theorem render_txs_prefix (s : State) (conv : Word → Int) : s.txs <+: (s.render conv).txs := by
  rw [render_eq]
  exact List.prefix_append _ _

theorem exec_templateUnit_txs_prefix {i : Instr} (h : isTemplateUnit i = true) (s : State) :
    Ensures (exec i s) fun t => s.txs <+: t.txs := by
  have htag (k : Nat) (conv : Word → Int) : s.txs <+: ((s.tiAdvance k).render conv).txs :=
    render_txs_prefix (s.tiAdvance k) conv
  cases i with
  | tLit | tEol => exact ensures_next.mpr (List.prefix_append _ _)
  | tTrunc => exact ensures_next.mpr (List.prefix_refl _)
  | tL | tU | tD | tI => exact ensures_next.mpr (htag 2 _)
  | tRsvd => exact ensures_refused _ _
  | ul =>
    exact .ite (fun _ => ensures_next.mpr (htag 3 _)) fun _ =>
      ensures_next.mpr ((htag 2 _).trans (List.prefix_append _ _))
  | _ => cases h

/-- Only the template units, TX_SEND and POLL write TXS, and they append to it. -/
theorem exec_txs_prefix (i : Instr) (s : State) : Ensures (exec i s) fun t => s.txs <+: t.txs := by
  intro t h
  cases i with
  | tLit | tL | tU | tD | tI | tRsvd | tTrunc | tEol | ul => exact exec_templateUnit_txs_prefix rfl s t h
  | txSend =>
    obtain ⟨n, rfl⟩ := txSendOp_eq_next h
    exact List.prefix_append _ _
  | poll =>
    rcases execPoll_cases h with rfl | ⟨r, hr, ht⟩
    · exact List.prefix_refl _
    · obtain ⟨hframe, -⟩ := rxCheckOp_received s r hr
      have htxs : r.txs = s.txs := (congrArg State.txs hframe :)
      rw [← htxs]
      rcases ht with rfl | ⟨n, rfl⟩
      · exact List.prefix_refl _
      · exact List.prefix_append _ _
  | _ =>
    have htxs := congrArg State.txs (exec_unwritten _ s t h)
    exact txs_prefix_of_eq htxs

theorem readInto_ensures {c : Ctl} {s : State} {P : State → Prop} (h : ∀ x, P ((s.shiftByte x).setCtl c)) :
    Ensures (readInto c s) P := by
  unfold readInto
  split
  · exact ensures_fault _ _
  · exact ensures_next.mpr (h _)

theorem wordRead_txs (s : State) : Ensures (wordRead s) fun t => t.txs = s.txs := by
  unfold wordRead
  cases s.ctl with
  | wordRead1 | wordRead2 => exact readInto_ensures fun _ => rfl
  | wordRead3 =>
    have hread : Ensures (readInto .receive s) fun u => u.txs = s.txs := readInto_ensures fun _ => rfl
    exact .ite (fun _ => ensures_refused _ _) fun _ => hread.andThen fun u hu =>
      ensures_next.mpr ((storeWord_txs u u.val).trans hu)
  | idle | receive | gate | send | sendEnd | latch =>
    exact .ite (fun _ => ensures_refused _ _) fun _ => readInto_ensures fun _ => rfl

theorem blockMove_txs_prefix (s : State) : Ensures s.blockMove.outcome fun t => s.txs <+: t.txs := by
  unfold State.blockMove
  cases s.ctl with
  | idle | latch => exact ensures_next.mpr (List.prefix_refl _)
  | receive =>
    cases decodeWire s.rstate s.rxq with
    | ok r => exact exec_txs_prefix r.1 s
    | error e => exact ensures_next.mpr (List.prefix_refl _)
  | wordRead1 | wordRead2 | wordRead3 => exact fun t h => txs_prefix_of_eq (wordRead_txs s t h)
  | gate =>
    have hgate : s.gateStep.txs = s.txs := by
      unfold State.gateStep
      dsimp only
      split <;> rfl
    exact ensures_next.mpr (txs_prefix_of_eq hgate)
  | send => exact exec_txs_prefix _ s
  | sendEnd => exact exec_txs_prefix .tEol s

/-- Settles O43: every instruction appends to TXS, and no other move of a step writes it. -/
theorem outboundLogIsAppendOnly : Obligations.OutboundLogIsAppendOnly := by
  intro s t h
  obtain ⟨l, ⟨b, rfl⟩ | ⟨ms, rfl⟩ | hblock | ⟨-, hread⟩ | ⟨-, i, -, hop⟩ | ⟨-, rfl⟩⟩ := step_cases h
  · exact txs_prefix_of_eq (rxAppend_txs _ b)
  · exact List.prefix_refl _
  · exact blockMove_txs_prefix (s.setInputs l) t hblock
  · exact txs_prefix_of_eq (wordRead_txs (s.setInputs l) t hread)
  · exact exec_txs_prefix i (s.setInputs l) t hop
  · unfold State.pollBegin
    split <;> exact List.prefix_refl _

/-! ### The transient state between operations (R20, R28, R29, R33) -/

/-- What the operation answers, apart from the transient state, does not depend on the transient state it finds. -/
def IgnoresTransient (f : State → Out) : Prop := ∀ s, forgetIn (f s) = forgetIn (f s.forgetTransient)

theorem forgetIn_andThen (o : Out) (f : State → Out) : forgetIn (andThen o f) = andThen o fun t => forgetIn (f t) :=
  andThen_assoc o f _

theorem IgnoresTransient.forgetIn_andThen {g : State → Out} (hg : IgnoresTransient g) (o : Out) :
    forgetIn (andThen o g) = andThen (forgetIn o) fun t => forgetIn (g t) := by
  rw [Machine.forgetIn_andThen, forgetIn, andThen_assoc]
  exact andThen_congr fun t _ => hg t

theorem IgnoresTransient.andThen {f g : State → Out} (hf : IgnoresTransient f) (hg : IgnoresTransient g) :
    IgnoresTransient fun s => andThen (f s) g := by
  intro s
  simp only [hg.forgetIn_andThen, hf s]

theorem IgnoresTransient.returnTo {f : State → Out} (hf : IgnoresTransient f) :
    IgnoresTransient fun s => returnTo s.ctl (f s) := fun s =>
  have hset : IgnoresTransient fun t => .next (t.setCtl s.ctl) := fun _ => rfl
  hf.andThen hset s

theorem storeWord_forgetTransient (s : State) (v : Word) :
    (s.storeWord v).forgetTransient = (s.forgetTransient.storeWord v).forgetTransient := by
  unfold State.storeWord
  dsimp only
  rw [apply_ite State.forgetTransient, apply_ite State.forgetTransient]
  rfl

theorem execRxWord_ignoresTransient (a b c d : Byte) : IgnoresTransient (execRxWord a b c d) := by
  intro s
  have hstore := storeWord_forgetTransient (s.rxDrop 4) (assemble a b c d)
  have havail : s.forgetTransient.rxAvail = s.rxAvail := rfl
  have hnIn : s.forgetTransient.nIn = s.nIn := rfl
  unfold execRxWord
  rw [havail, hnIn]
  split_ifs
  · rfl
  · rfl
  · exact congrArg Host.Outcome.next hstore

theorem dataLoop_ignoresTransient : ∀ n, IgnoresTransient (dataLoop n)
  | 0 => fun _ => rfl
  | n + 1 => by
    have hturn : IgnoresTransient fun t => if t.fill = 0 then .next t else dataLoop n t := by
      intro t
      have hfill : t.forgetTransient.fill = t.fill := rfl
      simp only [hfill]
      split
      · rfl
      · exact dataLoop_ignoresTransient n t
    intro s
    have hq : s.forgetTransient.rxq = s.rxq := rfl
    unfold dataLoop
    rw [hq]
    split
    · exact (execRxWord_ignoresTransient _ _ _ _).andThen hturn s
    · rfl

theorem awaitLoop_ignoresTransient (s : State) :
    forgetIn (awaitLoop s.rxq.length s) = forgetIn (awaitLoop s.rxq.length s.forgetTransient) := by
  have hq : s.forgetTransient.rxq = s.rxq := rfl
  rw [awaitLoop_eq _ s le_rfl, awaitLoop_eq _ s.forgetTransient (le_of_eq (congrArg _ hq)), hq]
  split <;> rfl

theorem rxCheckOp_ignoresTransient : IgnoresTransient rxCheckOp := by
  refine IgnoresTransient.returnTo fun s => ?_
  have hr : s.forgetTransient.rstate = s.rstate := rfl
  simp only [hr]
  cases s.rstate with
  | awaitingStart => exact awaitLoop_ignoresTransient s
  | receivingData => exact dataLoop_ignoresTransient _ s

/-- TX_SEND clears TI and CUR at its start and reads neither VAL nor NOW (R151). -/
theorem txSendOp_ignoresTransient : IgnoresTransient txSendOp := by
  intro s
  obtain ⟨n, hn⟩ := txSendOp_eq s
  obtain ⟨m, hm⟩ := txSendOp_eq s.forgetTransient
  have htpl : s.forgetTransient.tpl = s.tpl := rfl
  rw [hn, hm, htpl]
  split <;> rfl

/-- POLL samples the clock before the gate reads NOW (R191). -/
theorem execPoll_ignoresTransient : IgnoresTransient execPoll := by
  have hgate : IgnoresTransient fun r => if r.sampleClock.gateOpen
      then andThen (txSendOp r.sampleClock) fun u => .next u.latchLastSend else .next r.sampleClock := by
    intro r
    obtain ⟨n, hn⟩ := txSendOp_eq r.sampleClock
    obtain ⟨m, hm⟩ := txSendOp_eq r.forgetTransient.sampleClock
    have hopen : r.forgetTransient.sampleClock.gateOpen = r.sampleClock.gateOpen := rfl
    have htpl : r.forgetTransient.sampleClock.tpl = r.sampleClock.tpl := rfl
    simp only [hn, hm, hopen, htpl]
    split_ifs <;> rfl
  intro s
  have hen : s.forgetTransient.enabled = s.enabled := rfl
  unfold execPoll
  rw [hen]
  split
  · rfl
  · exact rxCheckOp_ignoresTransient.andThen hgate s

/-- Settles O44: an operation that uses the transient state sets it first, and the others do not read it. -/
theorem transientStateIsUnobservable : Obligations.TransientStateIsUnobservable := by
  intro i s hi
  cases i with
  | poll => exact execPoll_ignoresTransient s
  | rxCheck => exact rxCheckOp_ignoresTransient s
  | txSend => exact txSendOp_ignoresTransient s
  | takeUpdated | setEnabled | hRsvd => rfl
  | setTemplate str =>
    have hcfg : s.forgetTransient.cfg = s.cfg := rfl
    simp only [exec, execSetTemplate, hcfg]
    split <;> rfl
  | ivRead idx =>
    have hiv : s.forgetTransient.iv = s.iv := rfl
    simp only [exec, execIvRead, hiv]
    split <;> rfl
  | ovRead idx =>
    have hov : s.forgetTransient.ov = s.ov := rfl
    simp only [exec, execOvRead, hov]
    split <;> rfl
  | ovWrite idx w =>
    have hnOut : s.forgetTransient.nOut = s.nOut := rfl
    simp only [exec, execOvWrite, hnOut]
    split <;> rfl
  | reset tpl interval en =>
    have hcfg : s.forgetTransient.cfg = s.cfg := rfl
    have hnIn : s.forgetTransient.nIn = s.nIn := rfl
    simp only [exec, execReset, hcfg, hnIn]
    split_ifs <;> rfl
  | _ => cases hi

/-! ### The invariants, and the state after reset (R37, R40) -/

/-- The invariants that do not speak of where the block stands. -/
structure State.Sound (s : State) : Prop where
  cfg_ok : s.cfg.ok = true
  iv_length : s.iv.length = s.cfg.nIn
  ov_length : s.ov.length = s.cfg.nOut
  fill_lt : s.fill < s.iv.length
  fill_of_awaiting : s.rstate = .awaitingStart → s.fill = 0
  tpl_ok : templateOk s.cfg.tplMax s.tpl = true
  lastSend_lt : s.lastSend < 2 ^ s.cfg.clkW
  interval_lt : s.interval < 2 ^ s.cfg.clkW
  now_lt : s.now < 2 ^ s.cfg.clkW
  clk_lt : s.clk < 2 ^ s.cfg.clkW
  cur_le : s.cur ≤ s.ov.length
  rxq_le : ∀ n ∈ s.cfg.rxqDepth, s.rxq.length ≤ n

/-- The invariants of the place where the block stands: in the scan (R28), and inside RX.WORD (R123, R54). -/
structure State.Placed (s : State) : Prop where
  ti_le : s.ctl = .send → s.ti ≤ s.tpl.length
  readsLeft_le : readsLeft s.ctl ≤ s.rxq.length
  receiving : 0 < readsLeft s.ctl → s.rstate = .receivingData

theorem inv_iff (s : State) : s.Inv ↔ s.Sound ∧ s.Placed := by
  constructor
  · rintro ⟨h1, h2, h3, h4, h5, h6, h7, h8, h9, h10, h11, h12, h13, h14, h15⟩
    exact ⟨⟨h1, h2, h3, h4, h5, h6, h7, h8, h9, h10, h11, h13⟩, ⟨h12, h14, h15⟩⟩
  · rintro ⟨⟨h1, h2, h3, h4, h5, h6, h7, h8, h9, h10, h11, h13⟩, ⟨h12, h14, h15⟩⟩
    exact ⟨h1, h2, h3, h4, h5, h6, h7, h8, h9, h10, h11, h12, h13, h14, h15⟩

/-- Outside RX.WORD the place asks for nothing but a scan index within the template. -/
theorem placed_of_ctl {s : State} (hti : s.ctl = .send → s.ti ≤ s.tpl.length) (hreads : readsLeft s.ctl = 0) :
    s.Placed where
  ti_le := hti
  readsLeft_le := by omega
  receiving h := by omega

theorem placed_of_ctl_eq {s : State} {c : Ctl} (hc : s.ctl = c) (hsend : c ≠ .send) (hreads : readsLeft c = 0) :
    s.Placed := by
  subst hc
  exact placed_of_ctl (fun e => absurd e hsend) hreads

/-- The constraints of R6, one by one. -/
theorem params_ok_iff (p : Params) : p.ok = true ↔
    1 ≤ p.nIn ∧ 1 ≤ p.clkW ∧ p.interval < 2 ^ p.clkW ∧ p.lastSendReset < 2 ^ p.clkW
      ∧ templateOk p.tplMax p.tplReset = true ∧ ∀ n ∈ p.rxqDepth, 4 ≤ n := by
  cases h : p.rxqDepth <;> simp [Params.ok, h, and_assoc]

theorem resetWith_inv {p : Params} (hp : p.ok = true) : (State.resetWith p).Inv := by
  obtain ⟨hnIn, -, hinterval, hlast, htpl, -⟩ := (params_ok_iff p).mp hp
  have hpow : 0 < 2 ^ p.clkW := Nat.two_pow_pos _
  refine (inv_iff _).mpr ⟨?_, placed_of_ctl_eq rfl nofun rfl⟩
  exact {
    cfg_ok := hp
    iv_length := rfl
    ov_length := rfl
    fill_lt := hnIn
    fill_of_awaiting := fun _ => rfl
    tpl_ok := htpl
    lastSend_lt := hlast
    interval_lt := hinterval
    now_lt := hpow
    clk_lt := hpow
    cur_le := Nat.zero_le _
    rxq_le := fun _ _ => Nat.zero_le _ }

/-- Settles O38: the state after reset of an admitted configuration, of which `Params.chosen` is one. -/
theorem resetMeetsTheInvariants : Obligations.ResetMeetsTheInvariants :=
  ⟨fun _ hp => resetWith_inv hp, resetWith_inv (by decide)⟩

/-! ### What each operation on the state keeps of the invariants -/

section
variable {s : State} (h : s.Sound)
include h

theorem State.Sound.setCtl (c : Ctl) : (s.setCtl c).Sound := { h with }

/-- Bytes may leave the source. -/
theorem State.Sound.source {q : List Byte} (hq : q.length ≤ s.rxq.length) : ({ s with rxq := q } : State).Sound :=
  { h with rxq_le := fun n hn => hq.trans (h.rxq_le n hn) }

theorem State.Sound.rxDrop (n : Nat) : (s.rxDrop n).Sound := h.source (by simp)

/-- One read of RX.WORD, after which the block stands at `c` (R126). -/
theorem State.Sound.read (x : Byte) (c : Ctl) : ((s.shiftByte x).setCtl c).Sound := { h.rxDrop 1 with }

theorem State.Sound.rxAppend (b : Byte) : (s.rxAppend b).Sound := by
  unfold State.rxAppend
  split
  · exact h
  · next hfull =>
    have hroom := (rxFull_eq_false_iff s).mp (by simpa using hfull)
    refine { h with rxq_le := fun n hn => ?_ }
    rw [List.length_append]
    exact hroom n hn

theorem State.Sound.enterReceiving : (s.setRState .receivingData).Sound := { h with fill_of_awaiting := nofun }

/-- RX.WORD's store in ReceivingData (R37, R128): where it returns to AwaitingStart, FILL has wrapped. -/
theorem State.Sound.storeWord (hr : s.rstate = .receivingData) (v : Word) : (s.storeWord v).Sound := by
  have hfill := h.fill_lt
  rw [storeWord_eq s v hfill]
  split
  · exact { h with
      iv_length := by simpa using h.iv_length
      fill_lt := by simp; omega
      fill_of_awaiting := fun _ => rfl }
  · exact { h with
      iv_length := by simpa using h.iv_length
      fill_lt := by simp; omega
      fill_of_awaiting := by simp [hr] }

theorem State.Sound.clkAdvance (ms : Nat) : (s.clkAdvance ms).Sound :=
  { h with clk_lt := Nat.mod_lt _ (Nat.two_pow_pos _) }

theorem State.Sound.sampleClock : s.sampleClock.Sound := { h with now_lt := h.clk_lt }

theorem State.Sound.latchLastSend : s.latchLastSend.Sound := { h with lastSend_lt := h.now_lt }

theorem State.Sound.scanStart : s.scanStart.Sound := { h with cur_le := Nat.zero_le _ }

theorem State.Sound.tiAdvance (n : Nat) : (s.tiAdvance n).Sound := { h with }

theorem State.Sound.render (conv : Word → Int) : (s.render conv).Sound := by
  rw [render_eq]
  refine { h with cur_le := ?_ }
  dsimp only
  split
  case isTrue hlt => exact hlt
  case isFalse => exact h.cur_le

/-- A line sent, with the cursor back at the start (R151, R162). -/
theorem State.Sound.sent (l : List Byte) (n : Nat) : ({ s with txs := l, cur := 0, ti := n } : State).Sound :=
  { h with cur_le := Nat.zero_le _ }

theorem State.Sound.ovStore (idx : Nat) (w : Word) : (s.ovStore idx w).Sound :=
  { h with
    ov_length := by simpa using h.ov_length
    cur_le := by simpa using h.cur_le }

theorem State.Sound.gateStep : s.gateStep.Sound := by
  unfold State.gateStep
  dsimp only
  split
  · exact h.sampleClock.scanStart.setCtl .send
  · exact h.sampleClock.setCtl .idle

/-! ### What each instruction keeps of the invariants -/

theorem rxCheckOp_sound : Ensures (rxCheckOp s) State.Sound :=
  rxCheckOp_ensures h (fun _ hq => (h.source hq).enterReceiving.setCtl .gate) (h.source (Nat.zero_le _))
    (fun _ v hu hr => (hu.rxDrop 4).storeWord hr v) fun _ hu => hu.setCtl s.ctl

theorem execPoll_sound : Ensures (execPoll s) State.Sound := by
  intro t ht
  obtain rfl | ⟨r, hr, rfl | ⟨n, rfl⟩⟩ := execPoll_cases ht
  · exact h
  · exact (rxCheckOp_sound h r hr).sampleClock
  · exact ((rxCheckOp_sound h r hr).sampleClock.sent _ n).latchLastSend

theorem exec_templateUnit_sound {i : Instr} (hi : isTemplateUnit i = true) : Ensures (exec i s) State.Sound := by
  have htag (k : Nat) (conv : Word → Int) : ((s.tiAdvance k).render conv).Sound := (h.tiAdvance k).render conv
  cases i with
  | tLit | tTrunc => exact ensures_next.mpr { h with }
  | tEol => exact ensures_next.mpr { h with cur_le := Nat.zero_le _ }
  | tL | tU | tD | tI => exact ensures_next.mpr (htag 2 _)
  | tRsvd => exact ensures_refused _ _
  | ul => exact .ite (fun _ => ensures_next.mpr (htag 3 _)) fun _ => ensures_next.mpr { htag 2 convU with }
  | _ => cases hi

theorem execReset_sound (tpl : List Byte) (interval : Nat) (en : Option Bool) :
    Ensures (execReset tpl interval en s) State.Sound := by
  obtain ⟨-, -, -, hlast, -, -⟩ := (params_ok_iff s.cfg).mp h.cfg_ok
  intro t ht
  obtain ⟨hinterval, htpl, rfl⟩ := execReset_eq_next ht
  exact { h with
    fill_lt := Nat.zero_lt_of_lt h.fill_lt
    fill_of_awaiting := fun _ => rfl
    tpl_ok := htpl
    lastSend_lt := hlast
    interval_lt := hinterval }

/-- Every instruction keeps the invariants that do not speak of the place; RX.WORD needs ReceivingData. -/
theorem exec_sound {i : Instr} (hword : (∃ a b c d, i = .rxWord a b c d) → s.rstate = .receivingData) :
    Ensures (exec i s) State.Sound := by
  cases i with
  | rxDiscard => exact .ite (fun _ => ensures_fault _ _) fun _ => ensures_next.mpr (h.rxDrop 1)
  | rxStart =>
    exact .ite (fun _ => ensures_fault _ _) fun _ => ensures_next.mpr ((h.rxDrop 1).enterReceiving.setCtl .gate)
  | rxWord a b c d =>
    exact .ite (fun _ => ensures_fault _ _) fun _ => .ite (fun _ => ensures_refused _ _) fun _ =>
      ensures_next.mpr ((h.rxDrop 4).storeWord (hword ⟨a, b, c, d, rfl⟩) _)
  | tLit | tL | tU | tD | tI | tRsvd | tTrunc | tEol | ul => exact exec_templateUnit_sound h rfl
  | poll => exact execPoll_sound h
  | takeUpdated | setEnabled => exact ensures_next.mpr { h with }
  | setTemplate => exact .ite (fun htpl => ensures_next.mpr { h with tpl_ok := htpl }) fun _ => ensures_refused _ _
  | ivRead => exact execIvRead_ensures fun _ => { h with }
  | ovWrite idx w => exact .ite (fun _ => ensures_next.mpr (h.ovStore idx w)) fun _ => ensures_refused _ _
  | ovRead => exact execOvRead_ensures fun _ => { h with }
  | hRsvd => exact ensures_refused _ _
  | reset tpl interval en => exact execReset_sound h tpl interval en
  | rxCheck => exact rxCheckOp_sound h
  | txSend =>
    intro t ht
    obtain ⟨n, rfl⟩ := txSendOp_eq_next ht
    exact h.sent _ n

end

/-! ### Where the block stands after a step -/

/-- A host operation issued between operations is over when it answers (R63). -/
theorem exec_hostOperation_ctl {i : Instr} (hi : isHostOperation i = true) (s : State) (hc : s.ctl = .idle) :
    Ensures (exec i s) fun t => t.ctl = .idle := by
  intro t h
  cases i with
  | reset =>
    obtain ⟨-, -, rfl⟩ := execReset_eq_next h
    rfl
  | poll | takeUpdated | setEnabled | setTemplate | ivRead | ovWrite | ovRead | hRsvd | rxCheck | txSend =>
    have hctl := congrArg State.ctl (exec_unwritten _ s t h)
    exact hctl.trans hc
  | _ => cases hi

/-- A host operation between operations keeps the invariants. -/
theorem exec_hostOperation_inv {i : Instr} (hi : isHostOperation i = true) {s : State} (h : s.Inv)
    (hc : s.ctl = .idle) : Ensures (exec i s) State.Inv := by
  obtain ⟨hsound, -⟩ := (inv_iff s).mp h
  intro t ht
  have hctl := exec_hostOperation_ctl hi s hc t ht
  have hword : (∃ a b c d, i = .rxWord a b c d) → s.rstate = .receivingData := by
    rintro ⟨a, b, c, d, rfl⟩
    cases hi
  exact (inv_iff t).mpr ⟨exec_sound hsound hword t ht, placed_of_ctl_eq hctl nofun rfl⟩

/-- The units of the inbound stream, and the state in which it holds words (R82). -/
theorem decodeWire_cases {m : RState} {q rest : List Byte} {i : Instr} (h : decodeWire m q = .ok (i, rest)) :
    (∃ b, i = .rxDiscard b) ∨ i = .rxStart ∨ (m = .receivingData ∧ ∃ a b c d, i = .rxWord a b c d) := by
  unfold decodeWire at h
  split at h <;> cases h
  · split
    · exact .inr (.inl rfl)
    · exact .inl ⟨_, rfl⟩
  · exact .inr (.inr ⟨rfl, _, _, _, _, rfl⟩)

/-- A wire unit goes back to the loop test or leaves RX_CHECK (R124 to R126). -/
theorem exec_wireUnit_ctl {i : Instr}
    (hi : (∃ b, i = .rxDiscard b) ∨ i = .rxStart ∨ ∃ a b c d, i = .rxWord a b c d) (s : State) :
    Ensures (exec i s) fun t => t.ctl = s.ctl ∨ t.ctl = .gate := by
  obtain ⟨b, rfl⟩ | rfl | ⟨a, b, c, d, rfl⟩ := hi
  · exact .ite (fun _ => ensures_fault _ _) fun _ => ensures_next.mpr (.inl rfl)
  · exact .ite (fun _ => ensures_fault _ _) fun _ => ensures_next.mpr (.inr rfl)
  · refine .ite (fun _ => ensures_fault _ _) fun _ => .ite (fun _ => ensures_refused _ _) fun _ => ensures_next.mpr ?_
    rw [storeWord_ctl]
    exact (ite_eq_or_eq _ _ _).symm

/-- The wire unit that RX_CHECK fetches keeps the invariants. -/
theorem exec_fetchedWireUnit_inv {s : State} (h : s.Sound) (hc : s.ctl = .receive) {i : Instr} {rest : List Byte}
    (hi : decodeWire s.rstate s.rxq = .ok (i, rest)) : Ensures (exec i s) State.Inv := by
  have hunit := decodeWire_cases hi
  intro t ht
  have hword : (∃ a b c d, i = .rxWord a b c d) → s.rstate = .receivingData := by
    rintro ⟨a, b, c, d, rfl⟩
    simpa using hunit
  have hctl : t.ctl = .receive ∨ t.ctl = .gate := by
    rw [← hc]
    exact exec_wireUnit_ctl (hunit.imp id (Or.imp id And.right)) s t ht
  refine (inv_iff t).mpr ⟨exec_sound h hword t ht, ?_⟩
  rcases hctl with e | e <;> exact placed_of_ctl_eq e nofun rfl

/-- A unit of `k` characters that stand at TI leaves TI within the template. -/
theorem ti_le_of_drop {s : State} {q : List Byte} {k : Nat} (hq : s.tpl.drop s.ti = q) (hk : k ≤ q.length)
    (hpos : 0 < k) : s.ti + k ≤ s.tpl.length := by
  rw [← hq, List.length_drop] at hk
  omega

theorem exec_decodeTag_ensures {P : State → Prop} (t : Byte) {s : State}
    (h : ∀ conv, P ((s.tiAdvance 2).render conv)) : Ensures (exec (decodeTag t) s) P := by
  unfold decodeTag
  split_ifs
  case neg => exact ensures_refused _ _
  all_goals exact ensures_next.mpr (h _)

/-- The template unit fetched at TI leaves the scan, or leaves TI within the template (R28, R90). -/
theorem exec_fetchedTemplateUnit_ti (s : State) :
    Ensures (exec (decodeTemplate s.cfg.tagUlFix (s.tpl.drop s.ti)).1 s) fun t =>
      t.ctl = .sendEnd ∨ t.ctl = .latch ∨ (t.ctl = s.ctl ∧ t.ti ≤ t.tpl.length) := by
  generalize hfix : s.cfg.tagUlFix = fix
  generalize hq : s.tpl.drop s.ti = q
  fun_cases decodeTemplate fix q with
  | case1 => exact ensures_next.mpr (.inr (.inl rfl))
  | case2 => exact ensures_next.mpr (.inr (.inr ⟨rfl, ti_le_of_drop hq (by simp) Nat.one_pos⟩))
  | case3 => exact ensures_next.mpr (.inl rfl)
  | case4 c hc t q hul =>
    have hcfg : s.cfg.tagUlFix = true := hfix.trans hul.1
    have hlen : 3 ≤ (c :: t :: q).length := by
      cases q
      · simp at hul
      · simp
    have hti := ti_le_of_drop hq hlen (by decide)
    simp only [exec, execUl, hcfg, if_true, ensures_next]
    exact .inr (.inr (by simpa using hti))
  | case5 c hc t q =>
    have hti := ti_le_of_drop hq (k := 2) (by simp) (by decide)
    exact exec_decodeTag_ensures t fun conv => .inr (.inr (by simpa using hti))

/-- The template unit that TX_SEND fetches keeps the invariants. -/
theorem exec_fetchedTemplateUnit_inv {s : State} (h : s.Sound) (hc : s.ctl = .send) :
    Ensures (exec (decodeTemplate s.cfg.tagUlFix (s.tpl.drop s.ti)).1 s) State.Inv := by
  have hunit := decodeTemplate_isTemplateUnit s.cfg.tagUlFix (s.tpl.drop s.ti)
  intro t ht
  refine (inv_iff t).mpr ⟨exec_templateUnit_sound h hunit t ht, ?_⟩
  obtain e | e | ⟨e, hti⟩ := exec_fetchedTemplateUnit_ti s t ht
  · exact placed_of_ctl_eq e nofun rfl
  · exact placed_of_ctl_eq e nofun rfl
  · exact placed_of_ctl (fun _ => hti) (by rw [e, hc]; rfl)

/-! ### The single reads of RX.WORD (R126, R54) -/

theorem readInto_inv {s : State} (h : s.Sound) (hr : s.rstate = .receivingData) {c : Ctl}
    (hlen : readsLeft c < s.rxq.length) (hsend : c ≠ .send) : Ensures (readInto c s) State.Inv := by
  refine readInto_ensures fun x => (inv_iff _).mpr ⟨h.read x c, ?_⟩
  exact {
    ti_le := fun e => absurd e hsend
    readsLeft_le := by simp; omega
    receiving := fun _ => hr }

/-- The word's store goes back to the loop test or leaves RX_CHECK. -/
theorem storeWord_inv {s : State} (h : s.Sound) (hr : s.rstate = .receivingData) (hc : s.ctl = .receive) (v : Word) :
    (s.storeWord v).Inv := by
  have hctl : (s.storeWord v).ctl = .gate ∨ (s.storeWord v).ctl = .receive := by
    rw [storeWord_ctl, hc]
    exact ite_eq_or_eq _ _ _
  refine (inv_iff _).mpr ⟨h.storeWord hr v, ?_⟩
  rcases hctl with e | e <;> exact placed_of_ctl_eq e nofun rfl

/-- A read of RX.WORD keeps the invariants where the bytes it has still to read are there, four before the first. -/
theorem wordRead_inv {s : State} (h : s.Sound) (hr : s.rstate = .receivingData)
    (hlen : readsLeft s.ctl ≤ s.rxq.length) (hfirst : readsLeft s.ctl = 0 → 4 ≤ s.rxq.length) :
    Ensures (wordRead s) State.Inv := by
  unfold wordRead
  cases hc : s.ctl with
  | wordRead1 | wordRead2 =>
    rw [hc] at hlen
    exact readInto_inv h hr hlen nofun
  | wordRead3 =>
    have hread : Ensures (readInto .receive s) fun u => u.Sound ∧ u.rstate = .receivingData ∧ u.ctl = .receive :=
      readInto_ensures fun x => ⟨h.read x .receive, hr, rfl⟩
    exact .ite (fun _ => ensures_refused _ _) fun _ => hread.andThen fun u ⟨hu, hur, huc⟩ =>
      ensures_next.mpr (storeWord_inv hu hur huc u.val)
  | idle | receive | gate | send | sendEnd | latch =>
    rw [hc] at hfirst
    exact .ite (fun _ => ensures_refused _ _) fun _ =>
      readInto_inv (s := s.clearVal) { h with } hr (hfirst rfl) nofun

/-! ### The moves of a step keep the invariants -/

/-- A move to a place outside the scan and RX.WORD. -/
theorem setCtl_inv {s : State} (h : s.Sound) {c : Ctl} (hsend : c ≠ .send) (hreads : readsLeft c = 0) :
    (s.setCtl c).Inv :=
  (inv_iff _).mpr ⟨h.setCtl c, placed_of_ctl_eq rfl hsend hreads⟩

/-- The gate opens on a scan from the start of the template, or ends POLL (R191). -/
theorem gateStep_inv {s : State} (h : s.Sound) : s.gateStep.Inv := by
  refine (inv_iff _).mpr ⟨h.gateStep, ?_⟩
  unfold State.gateStep
  dsimp only
  split
  · exact placed_of_ctl (fun _ => Nat.zero_le _) rfl
  · exact placed_of_ctl_eq rfl nofun rfl

theorem pollBegin_inv {s : State} (h : s.Inv) : s.pollBegin.Inv := by
  unfold State.pollBegin
  split
  · exact setCtl_inv ((inv_iff s).mp h).1 nofun rfl
  · exact h

/-- The block's own step keeps the invariants. -/
theorem blockMove_inv {s : State} (h : s.Inv) : Ensures s.blockMove.outcome State.Inv := by
  obtain ⟨hsound, hplaced⟩ := (inv_iff s).mp h
  have hread (hpos : 0 < readsLeft s.ctl) : Ensures (wordRead s) State.Inv :=
    wordRead_inv hsound (hplaced.receiving hpos) hplaced.readsLeft_le fun hzero => by omega
  unfold State.blockMove
  cases hc : s.ctl with
  | idle => exact ensures_next.mpr h
  | receive =>
    cases hd : decodeWire s.rstate s.rxq with
    | ok r => exact exec_fetchedWireUnit_inv hsound hc hd
    | error e => exact ensures_next.mpr (setCtl_inv hsound nofun rfl)
  | wordRead1 | wordRead2 | wordRead3 => exact hread (by rw [hc]; decide)
  | gate => exact ensures_next.mpr (gateStep_inv hsound)
  | send => exact exec_fetchedTemplateUnit_inv hsound hc
  | sendEnd => exact ensures_next.mpr (setCtl_inv (hsound.sent _ s.ti) nofun rfl)
  | latch => exact ensures_next.mpr (setCtl_inv hsound.latchLastSend nofun rfl)

theorem rxAppend_inv {s : State} (h : s.Inv) (b : Byte) : (s.rxAppend b).Inv := by
  obtain ⟨hsound, hplaced⟩ := (inv_iff s).mp h
  obtain ⟨m, hm⟩ := arrive_rxq_append s [b]
  have hq : (s.rxAppend b).rxq = s.rxq ++ m := hm
  refine (inv_iff _).mpr ⟨hsound.rxAppend b, ?_⟩
  exact {
    ti_le := by simpa using hplaced.ti_le
    readsLeft_le := by
      have hle := hplaced.readsLeft_le
      rw [rxAppend_ctl, hq, List.length_append]
      omega
    receiving := by simpa using hplaced.receiving }

theorem clkAdvance_inv {s : State} (h : s.Inv) (ms : Nat) : (s.clkAdvance ms).Inv := by
  obtain ⟨hsound, hplaced⟩ := (inv_iff s).mp h
  exact (inv_iff _).mpr ⟨hsound.clkAdvance ms, { hplaced with }⟩

/-- Settles O39: each move of a step keeps the invariants, the pending moves being no part of them. -/
theorem stepKeepsTheInvariants : Obligations.StepKeepsTheInvariants := by
  intro s t h hstep
  obtain ⟨l, hmove⟩ := step_cases hstep
  have hl : (s.setInputs l).Inv := h
  obtain ⟨b, rfl⟩ | ⟨ms, rfl⟩ | hblock | ⟨⟨hc, hr, hlen⟩, hread⟩ | ⟨hc, i, hi, hop⟩ | ⟨-, rfl⟩ := hmove
  · exact rxAppend_inv hl b
  · exact clkAdvance_inv hl ms
  · exact blockMove_inv hl t hblock
  · obtain ⟨hsound, hplaced⟩ := (inv_iff _).mp hl
    exact wordRead_inv hsound hr hplaced.readsLeft_le (fun _ => hlen) t hread
  · exact exec_hostOperation_inv hi hl hc t hop
  · exact pollBegin_inv hl

end Sys2Proof.Machine

/-! ## Statements of 20_memory.md: empty sources, the vectors, POLL by units -/

namespace Sys2Proof.Machine

/-! ### Wire units on a source with too few bytes (R54, R128) -/

/-- Settles O4: each wire unit first compares what is available with what it consumes. -/
theorem wireUnitsStopOnEmptySource : Obligations.WireUnitsStopOnEmptySource := by
  have hempty {s : State} (h : s.rxq = []) : s.rxAvail < 1 := by simp [State.rxAvail, h]
  refine ⟨fun _ s h => ?_, fun s h => ?_, fun _ _ _ _ s h => ?_, fun _ _ _ _ s h hn => ?_⟩
  · exact if_pos (hempty h)
  · exact if_pos (hempty h)
  · exact if_pos h
  · exact (if_neg (Nat.not_lt.mpr h)).trans (if_pos (congrArg List.length hn))

/-! ### The OutputVector accesses of the host (R52, R197, R198) -/

theorem execOvWrite_of_lt {s : State} {i : Nat} (w : Word) (h : i < s.ov.length) :
    execOvWrite i w s = .next (s.ovStore i w) := if_pos h

theorem execOvRead_of_element {s : State} {i : Nat} {w : Word} (h : s.ov[i]? = some w) :
    execOvRead i s = .next (s.setResult (.word w)) := by
  simp [execOvRead, elementAt, h]

/-- The elements of OutputVector after a store (R52). -/
theorem ovStore_element {s : State} {j : Nat} (i : Nat) (w : Word) (hj : j < s.ov.length) :
    (s.ovStore i w).ov[j]? = some (if j = i then w else s.ov.getD j 0) := by
  rw [ovStore_ov, List.getElem?_set, List.getD_eq_getElem _ _ hj, List.getElem?_eq_getElem hj]
  by_cases h : i = j
  · subst h
    simp [hj]
  · simp [h, Ne.symm h]

/-- Settles O33: OV_READ finds the element that the store of OV_WRITE left there. -/
theorem ovReadAfterWrite : Obligations.OvReadAfterWrite := by
  intro i j w s hi hj
  exact ⟨_, _, execOvWrite_of_lt w hi, execOvRead_of_element (ovStore_element i w hj), rfl⟩

/-! ### Where a run ends -/

/-- Some number of steps from the state ends in the outcome. -/
def EndsIn (s : State) (o : Out) : Prop := ∃ n : Nat, Sys2Proof.core.run n s = o

theorem EndsIn.refl (s : State) : EndsIn s (.next s) := ⟨0, rfl⟩

theorem run_succ (n : Nat) (s : State) :
    Sys2Proof.core.run (n + 1) s = andThen (step s) (Sys2Proof.core.run n) := by
  simp only [Host.Core.run, Sys2Proof.core]
  cases step s <;> rfl

theorem run_add (m n : Nat) (s : State) :
    Sys2Proof.core.run (m + n) s = andThen (Sys2Proof.core.run m s) (Sys2Proof.core.run n) := by
  induction m generalizing s with
  | zero => rw [Nat.zero_add]; rfl
  | succ m ih =>
    rw [Nat.add_right_comm, run_succ, run_succ]
    exact (andThen_congr fun t _ => ih t).trans (andThen_assoc _ _ _).symm

theorem endsIn_of_step {s : State} {o : Out} (h : step s = o) : EndsIn s o :=
  ⟨1, by rw [run_succ, h]; cases o <;> rfl⟩

/-- A run that ends where `o` goes on, up to an adjustment `g` of the state, goes on with any run from there. -/
theorem EndsIn.andThen {s : State} {o : Out} {g : State → State} {f : State → Out}
    (ho : EndsIn s (andThen o fun t => .next (g t))) (hf : ∀ t, o = .next t → EndsIn (g t) (f t)) :
    EndsIn s (andThen o f) := by
  obtain ⟨m, hm⟩ := ho
  cases o with
  | next t =>
    obtain ⟨n, hn⟩ := hf t rfl
    exact ⟨m + n, by rw [run_add, hm]; exact hn⟩
  | fault | refused => exact ⟨m, hm⟩

theorem endsIn_of_step_next {s t : State} {o : Out} (h : step s = .next t) (ho : EndsIn t o) : EndsIn s o :=
  EndsIn.andThen (o := .next t) (g := id) (f := fun _ => o) (endsIn_of_step h) fun u hu => by
    cases hu
    exact ho

/-! ### The place of the block -/

theorem setCtl_of_ctl {s : State} {c : Ctl} (h : s.ctl = c) : s.setCtl c = s := by
  subst h
  rfl

theorem ctl_of_returnTo {c : Ctl} {o : Out} {t : State} (h : returnTo c o = .next t) : t.ctl = c := by
  obtain ⟨u, -, rfl⟩ := returnTo_eq_next.mp h
  rfl

theorem returnTo_returnTo (c d : Ctl) (o : Out) : returnTo c (returnTo d o) = returnTo c o := by
  cases o <;> rfl

/-- RX.WORD at the loop test: the place afterwards is the gate where the vector is complete (R129). -/
theorem storeWord_setCtl_receive (s : State) (v : Word) :
    (s.setCtl .receive).storeWord v
      = (s.storeWord v).setCtl (if (s.storeWord v).fill = 0 then .gate else .receive) := by
  by_cases hwrap : nextFill s.iv.length s.fill = 0
  · simp [State.storeWord, State.setCtl, hwrap]
  · simp [State.storeWord, State.setCtl, hwrap]

theorem execRxWord_setCtl_receive (a b c d : Byte) (s : State) :
    execRxWord a b c d (s.setCtl .receive)
      = andThen (execRxWord a b c d s) fun t => .next (t.setCtl (if t.fill = 0 then .gate else .receive)) := by
  have havail : (s.setCtl .receive).rxAvail = s.rxAvail := rfl
  have hnIn : (s.setCtl .receive).nIn = s.nIn := rfl
  unfold execRxWord
  rw [havail, hnIn]
  split_ifs
  · rfl
  · rfl
  · exact congrArg _ (storeWord_setCtl_receive (s.rxDrop 4) _)

theorem render_setCtl (s : State) (c : Ctl) (conv : Word → Int) :
    (s.setCtl c).render conv = (s.render conv).setCtl c := by
  simp only [render_eq]
  rfl

/-- A template unit inside the scan neither reads nor writes the place of the block. -/
theorem exec_templateUnit_setCtl {i : Instr} (h : isTemplateUnit i = true) (hEol : i ≠ .tEol) (hTrunc : i ≠ .tTrunc)
    (s : State) (c : Ctl) : exec i (s.setCtl c) = andThen (exec i s) fun t => .next (t.setCtl c) := by
  have htag (k : Nat) (conv : Word → Int) :
      ((s.setCtl c).tiAdvance k).render conv = ((s.tiAdvance k).render conv).setCtl c :=
    render_setCtl (s.tiAdvance k) c conv
  cases i with
  | tLit | tRsvd => rfl
  | tL | tU | tD | tI => exact congrArg _ (htag 2 _)
  | ul =>
    simp only [exec, execUl, execTU, execTLit, htag, setCtl_cfg, andThen_next]
    split <;> rfl
  | tEol => exact absurd rfl hEol
  | tTrunc => exact absurd rfl hTrunc
  | _ => cases h

/-- A template unit inside the scan advances TI and keeps the template. -/
theorem exec_templateUnit_advances {i : Instr} (h : isTemplateUnit i = true) (hEol : i ≠ .tEol)
    (hTrunc : i ≠ .tTrunc) (s : State) : Ensures (exec i s) fun t => t.tpl = s.tpl ∧ s.ti < t.ti := by
  cases i with
  | tLit | tL | tU | tD | tI => exact ensures_next.mpr (by simp)
  | tRsvd => exact ensures_refused _ _
  | ul => exact .ite (fun _ => ensures_next.mpr (by simp)) fun _ => ensures_next.mpr (by simp)
  | tEol => exact absurd rfl hEol
  | tTrunc => exact absurd rfl hTrunc
  | _ => cases h

theorem decodeWire_short {q : List Byte} (h : q.length < 4) :
    decodeWire .receivingData q = .error .shortWord := by
  rcases q with _ | ⟨a, _ | ⟨b, _ | ⟨c, _ | ⟨d, q⟩⟩⟩⟩
  case cons.cons.cons.cons =>
    simp only [List.length_cons] at h
    omega
  all_goals rfl

/-! ### The block's own step at each place of POLL (R191) -/

section
variable {s : State} (hs : s.inputs = [])
include hs

theorem step_receive_unit {i : Instr} {rest : List Byte} (h : decodeWire s.rstate s.rxq = .ok (i, rest)) :
    step (s.setCtl .receive) = exec i (s.setCtl .receive) := by
  rw [step_of_quiet (s := s.setCtl .receive) hs]
  simp only [State.blockMove, setCtl_ctl, setCtl_rstate, setCtl_rxq, h, Move.outcome]

theorem step_receive_wait {e : DecodeError} (h : decodeWire s.rstate s.rxq = .error e) :
    step (s.setCtl .receive) = .next (s.setCtl .gate) := by
  rw [step_of_quiet (s := s.setCtl .receive) hs]
  simp only [State.blockMove, setCtl_ctl, setCtl_rstate, setCtl_rxq, h, Move.outcome]
  rfl

theorem step_receive_empty (hr : s.rstate = .awaitingStart) (hq : s.rxq = []) :
    step (s.setCtl .receive) = .next (s.setCtl .gate) :=
  step_receive_wait hs (e := .emptySource) (by rw [hr, hq]; rfl)

theorem step_receive_short (hr : s.rstate = .receivingData) (hq : s.rxq.length < 4) :
    step (s.setCtl .receive) = .next (s.setCtl .gate) :=
  step_receive_wait hs (e := .shortWord) (by rw [hr, decodeWire_short hq])

theorem step_gate : step (s.setCtl .gate) = .next (s.setCtl .gate).gateStep := step_of_quiet hs

theorem step_send : step (s.setCtl .send)
    = exec (decodeTemplate s.cfg.tagUlFix (s.tpl.drop s.ti)).1 (s.setCtl .send) := step_of_quiet hs

theorem step_sendEnd : step (s.setCtl .sendEnd) = execTEol s := step_of_quiet hs

theorem step_latch : step (s.setCtl .latch) = .next (s.latchLastSend.setCtl .idle) := step_of_quiet hs

end

/-! ### RX_CHECK and TX_SEND by units -/

theorem awaitLoop_byUnits (n : Nat) {s : State} (hs : s.inputs = []) (hr : s.rstate = .awaitingStart)
    (hn : s.rxq.length ≤ n) : EndsIn (s.setCtl .receive) (returnTo .gate (awaitLoop n s)) := by
  induction n generalizing s with
  | zero =>
    exact endsIn_of_step (step_receive_empty hs hr (List.eq_nil_of_length_eq_zero (by omega)))
  | succ n ih =>
    cases hq : s.rxq with
    | nil =>
      simp only [awaitLoop, hq, returnTo_next]
      exact endsIn_of_step (step_receive_empty hs hr hq)
    | cons b q =>
      have hunit := step_receive_unit hs (rest := q)
        (i := if b = startMarker then .rxStart else .rxDiscard b) (by rw [hr, hq]; rfl)
      have hq' : (s.setCtl .receive).rxq = b :: q := hq
      by_cases hb : b = startMarker
      · rw [if_pos hb] at hunit
        simp only [awaitLoop, hq, if_pos hb, execRxStart_of_available hq, returnTo_next]
        exact endsIn_of_step (hunit.trans (execRxStart_of_available hq'))
      · rw [if_neg hb] at hunit
        simp only [awaitLoop, hq, if_neg hb, execRxDiscard_of_available b hq, andThen_next]
        refine endsIn_of_step_next (hunit.trans (execRxDiscard_of_available b hq')) ?_
        rw [hq, List.length_cons] at hn
        exact ih (s := { s with rxq := q }) hs hr (by simpa using hn)

theorem dataLoop_byUnits (n : Nat) {s : State} (hs : s.inputs = []) (hr : s.rstate = .receivingData)
    (hn : s.rxq.length ≤ n) : EndsIn (s.setCtl .receive) (returnTo .gate (dataLoop n s)) := by
  induction n generalizing s with
  | zero => exact endsIn_of_step (step_receive_short hs hr (by omega))
  | succ n ih =>
    by_cases hlen : s.rxq.length < 4
    · rw [dataLoop_short _ hlen]
      exact endsIn_of_step (step_receive_short hs hr hlen)
    · obtain ⟨a, b, c, d, q, hq⟩ := exists_four (Nat.not_lt.mp hlen)
      have hunit := step_receive_unit hs (i := .rxWord a b c d) (rest := q) (by rw [hr, hq]; rfl)
      simp only [dataLoop, hq, returnTo, andThen_assoc]
      refine EndsIn.andThen (endsIn_of_step (hunit.trans (execRxWord_setCtl_receive a b c d s))) fun t ht => ?_
      by_cases hf : t.fill = 0
      · simp only [if_pos hf, andThen_next]
        exact EndsIn.refl _
      · simp only [if_neg hf]
        obtain ⟨-, -, -, -, hin⟩ := exec_setting (i := .rxWord a b c d) ht
        rcases execRxWord_cases a b c d s with ⟨-, e⟩ | ⟨-, e⟩ | ⟨-, -, e⟩ <;> rw [e] at ht <;> cases ht
        rw [storeWord_fill] at hf
        refine ih (hin.trans hs) ?_ ?_
        · rw [storeWord_rstate, if_neg hf, rxDrop_rstate, hr]
        · rw [storeWord_rxq, rxDrop_rxq, List.length_drop]
          omega

/-- RX_CHECK by units ends at the gate where RX_CHECK whole ends (R121). -/
theorem rxCheckOp_byUnits {s : State} (hs : s.inputs = []) :
    EndsIn (s.setCtl .receive) (returnTo .gate (rxCheckOp s)) := by
  rw [rxCheckOp, returnTo_returnTo]
  cases hr : s.rstate with
  | awaitingStart => exact awaitLoop_byUnits _ hs hr le_rfl
  | receivingData => exact dataLoop_byUnits _ hs hr le_rfl

theorem scanLoop_byUnits (n : Nat) {s : State} (hs : s.inputs = []) (hn : s.tpl.length ≤ s.ti + n) :
    EndsIn (s.setCtl .send) (andThen (scanLoop n s) execTEol) := by
  induction n generalizing s with
  | zero =>
    have hend : s.tpl.drop s.ti = [] := List.drop_eq_nil_of_le hn
    refine endsIn_of_step ((step_send hs).trans ?_)
    rw [hend]
    rfl
  | succ n ih =>
    have hstep := step_send hs
    have hunit := decodeTemplate_isTemplateUnit s.cfg.tagUlFix (s.tpl.drop s.ti)
    rw [scanLoop_turn]
    generalize (decodeTemplate s.cfg.tagUlFix (s.tpl.drop s.ti)).1 = i at hstep hunit ⊢
    split_ifs with hEol hTrunc
    · subst hEol
      exact endsIn_of_step hstep
    · subst hTrunc
      exact endsIn_of_step_next hstep (endsIn_of_step (step_sendEnd hs))
    · rw [andThen_assoc]
      rw [exec_templateUnit_setCtl hunit hEol hTrunc] at hstep
      refine EndsIn.andThen (endsIn_of_step hstep) fun t ht => ?_
      obtain ⟨htpl, hti⟩ := exec_templateUnit_advances hunit hEol hTrunc s t ht
      obtain ⟨-, -, -, -, hin⟩ := exec_setting ht
      exact ih (hin.trans hs) (by rw [htpl]; omega)

/-- TX_SEND by units ends before `LAST_SEND <- NOW` where TX_SEND whole ends (R151). -/
theorem txSendOp_byUnits {s : State} (hs : s.inputs = []) :
    EndsIn (s.scanStart.setCtl .send) (returnTo .latch (txSendOp s)) := by
  have hscan := scanLoop_byUnits s.tpl.length (s := s.scanStart) hs (Nat.le_add_left _ _)
  have hlatch : returnTo .latch (txSendOp s) = andThen (scanLoop s.tpl.length s.scanStart) execTEol := by
    rw [txSendOp, returnTo_returnTo, returnTo, andThen_assoc]
    rfl
  rw [hlatch]
  exact hscan

/-! ### POLL by units (R63, R191) -/

/-- What POLL does once RX_CHECK has returned. -/
theorem gate_byUnits {r : State} (hs : r.inputs = []) (hc : r.ctl = .idle) :
    EndsIn (r.setCtl .gate) (if r.sampleClock.gateOpen then
      andThen (txSendOp r.sampleClock) fun u => .next u.latchLastSend else .next r.sampleClock) := by
  have hgate : (r.setCtl .gate).gateStep = if r.sampleClock.gateOpen then r.sampleClock.scanStart.setCtl .send
      else r.sampleClock.setCtl .idle := rfl
  refine endsIn_of_step_next (step_gate hs) ?_
  rw [hgate]
  split
  · refine EndsIn.andThen (txSendOp_byUnits (s := r.sampleClock) hs) fun u hu => endsIn_of_step ?_
    obtain ⟨-, -, -, -, hin⟩ := exec_setting (i := .txSend) hu
    rw [step_latch (hin.trans hs), setCtl_of_ctl (s := u.latchLastSend) ((ctl_of_returnTo hu).trans hc)]
  · rw [setCtl_of_ctl (s := r.sampleClock) hc]
    exact EndsIn.refl _

theorem execPoll_byUnits {s : State} (hs : s.inputs = []) (hc : s.ctl = .idle) : EndsIn s.pollBegin (execPoll s) := by
  unfold execPoll State.pollBegin
  cases s.enabled with
  | false => exact EndsIn.refl s
  | true =>
    refine EndsIn.andThen (rxCheckOp_byUnits hs) fun r hr => ?_
    obtain ⟨-, -, -, -, hin⟩ := exec_setting (i := .rxCheck) hr
    exact gate_byUnits (hin.trans hs) ((ctl_of_returnTo hr).trans hc)

/-- Settles O52: RX_CHECK, the gate and TX_SEND by units each end where they end whole. -/
theorem pollByUnitsEndsWherePollEnds : Obligations.PollByUnitsEndsWherePollEnds := by
  intro s hc hs
  exact endsIn_of_step_next (step_of_pollByUnits hs hc) (execPoll_byUnits (s := s.setInputs []) rfl hc)

end Sys2Proof.Machine

/-! ## Statements of 30_encoding.md: the decoders and the encoder, host codes, templates, decimal text -/

namespace Sys2Proof.Machine

/-! ### The units of each stream (R82, R88 to R90) -/

theorem decodeWire_of_ne_startMarker {b : Byte} (h : b ≠ startMarker) (q : List Byte) :
    decodeWire .awaitingStart (b :: q) = .ok (.rxDiscard b, q) := by
  simp only [decodeWire, if_neg h]

theorem decodeTemplate_of_ne_escMarker {c : Byte} (h : c ≠ escMarker) (fix : Bool) (q : List Byte) :
    decodeTemplate fix (c :: q) = (.tLit c, q) := by
  simp only [decodeTemplate, if_pos h]

/-- The marker and the character behind it are a unit, unless they begin a `%ul` that is one unit (R90, D12). -/
theorem decodeTemplate_tag {fix : Bool} {t : Byte} {q : List Byte}
    (h : ¬(fix = true ∧ t = charU ∧ q.head? = some charL)) :
    decodeTemplate fix (escMarker :: t :: q) = (decodeTag t, q) := by
  simp only [decodeTemplate, ne_eq, not_true_eq_false, if_false, if_neg h]

theorem decodeTemplate_ul (q : List Byte) :
    decodeTemplate true (escMarker :: charU :: charL :: q) = (.ul, q) := rfl

/-- Two characters that end the template: there is no third one to make them `%ul`. -/
theorem decodeTemplate_lastTag (fix : Bool) (t : Byte) :
    decodeTemplate fix [escMarker, t] = (decodeTag t, []) :=
  decodeTemplate_tag (by simp)

theorem isTagChar_iff {t : Byte} : isTagChar t = true ↔ t = charL ∨ t = charU ∨ t = charD ∨ t = charI := by
  simp [isTagChar, or_assoc]

theorem decodeTag_of_reserved {t : Byte} (h : isTagChar t = false) : decodeTag t = .tRsvd t := by
  rw [← Bool.not_eq_true, isTagChar_iff] at h
  push Not at h
  obtain ⟨hl, hu, hd, hi⟩ := h
  simp only [decodeTag, if_neg hl, if_neg hu, if_neg hd, if_neg hi]

/-- The four tag characters are the ones that R89 gives a unit. -/
theorem decodeTag_eq_tRsvd_iff {t t' : Byte} : decodeTag t = .tRsvd t' ↔ isTagChar t = false ∧ t = t' := by
  constructor
  · intro h
    cases ht : isTagChar t with
    | false =>
      rw [decodeTag_of_reserved ht] at h
      exact ⟨rfl, Instr.tRsvd.inj h⟩
    | true =>
      obtain rfl | rfl | rfl | rfl := isTagChar_iff.mp ht <;> cases h
  · rintro ⟨ht, rfl⟩
    exact decodeTag_of_reserved ht

/-! ### Decoding an encoding -/

theorem decode_wire {m : RState} {q : List Byte} {i : Instr} (fix : Bool) (h : decodeWire m q = .ok (i, [])) :
    decode fix (.wire m q) = .ok i := by
  simp only [decode, h]

theorem decode_template {fix : Bool} {q : List Byte} {i : Instr} (h : decodeTemplate fix q = (i, [])) :
    decode fix (.template q) = .ok i := by
  simp only [decode, h]

theorem decode_encode {p : Params} {i : Instr} {e : Encoding} (hwf : i.wf p = true) (he : encode i = some e) :
    decode p.tagUlFix e = .ok i := by
  cases i with
  | rxDiscard b =>
    cases he
    exact decode_wire _ (decodeWire_of_ne_startMarker (of_decide_eq_true hwf) [])
  | rxStart | rxWord =>
    cases he
    exact decode_wire _ rfl
  | tLit c =>
    cases he
    rw [Instr.wf, Bool.and_eq_true, decide_eq_true_eq] at hwf
    exact decode_template (decodeTemplate_of_ne_escMarker hwf.1 _ [])
  | tL | tU | tD | tI =>
    cases he
    exact decode_template (decodeTemplate_lastTag _ _)
  | tRsvd t =>
    cases he
    have ht : isTagChar t = false := (Bool.not_eq_true' _).mp hwf
    exact decode_template ((decodeTemplate_lastTag _ t).trans (by rw [decodeTag_of_reserved ht]))
  | tTrunc | tEol =>
    cases he
    exact decode_template rfl
  | ul =>
    cases he
    have hfix : p.tagUlFix = true := hwf
    rw [hfix]
    exact decode_template rfl
  | poll | takeUpdated | setEnabled | setTemplate | ivRead | ovWrite | ovRead | hRsvd | reset =>
    cases he
    rfl
  | rxCheck | txSend => cases he

theorem encode_eq_none_iff {i : Instr} : encode i = none ↔ i = .rxCheck ∨ i = .txSend := by
  cases i <;> simp [encode]

/-- Settles O53: by the stream of the instruction; only a reserved tag, a literal, a discarded byte and `%ul` need
that the instruction is well-formed. -/
theorem decodeOfEncode : Obligations.DecodeOfEncode :=
  ⟨fun _ _ _ hwf he => decode_encode hwf he, fun _ => encode_eq_none_iff⟩

/-! ### Encoding what a stream decoder reads -/

theorem encode_decodeTag (t : Byte) : encode (decodeTag t) = some (.template [escMarker, t]) := by
  cases ht : isTagChar t with
  | false => rw [decodeTag_of_reserved ht]; rfl
  | true => obtain rfl | rfl | rfl | rfl := isTagChar_iff.mp ht <;> rfl

theorem encode_of_decodeWire {m : RState} {q rest : List Byte} {i : Instr} (h : decodeWire m q = .ok (i, rest)) :
    ∃ bytes, encode i = some (.wire m bytes) ∧ q = bytes ++ rest ∧ ∀ p : Params, i.wf p = true := by
  cases m with
  | awaitingStart =>
    cases q with
    | nil => cases h
    | cons b q =>
      by_cases hb : b = startMarker
      · subst hb
        cases h
        exact ⟨[startMarker], rfl, rfl, fun _ => rfl⟩
      · rw [decodeWire_of_ne_startMarker hb] at h
        cases h
        exact ⟨[b], rfl, rfl, fun _ => decide_eq_true hb⟩
  | receivingData =>
    rcases Nat.lt_or_ge q.length 4 with hlen | hlen
    · rw [decodeWire_short hlen] at h
      cases h
    · obtain ⟨a, b, c, d, r, rfl⟩ := exists_four hlen
      cases h
      exact ⟨[a, b, c, d], rfl, rfl, fun _ => rfl⟩

theorem encode_decodeTemplate (fix : Bool) (q : List Byte) :
    ∃ chars, encode (decodeTemplate fix q).1 = some (.template chars) ∧ q = chars ++ (decodeTemplate fix q).2 := by
  fun_cases decodeTemplate fix q with
  | case1 => exact ⟨[], rfl, rfl⟩
  | case2 c q' hc => exact ⟨[c], rfl, rfl⟩
  | case3 c hc =>
    obtain rfl := not_not.mp hc
    exact ⟨[escMarker], rfl, rfl⟩
  | case4 c hc t q' hul =>
    obtain rfl := not_not.mp hc
    obtain ⟨-, rfl, hl⟩ := hul
    obtain ⟨r, rfl⟩ := List.head?_eq_some_iff.mp hl
    exact ⟨[escMarker, charU, charL], rfl, rfl⟩
  | case5 c hc t q' =>
    obtain rfl := not_not.mp hc
    exact ⟨[escMarker, t], encode_decodeTag t, rfl⟩

/-- Settles O54: by the cases of each stream's decoder. -/
theorem encodeOfDecode : Obligations.EncodeOfDecode :=
  ⟨fun _ _ _ _ h => encode_of_decodeWire h, fun fix q _ _ h => by simpa only [h] using encode_decodeTemplate fix q⟩

/-! ### Host codes (R103) and the encodings written out -/

/-- A command names its operation by its code; the operands stay as they are. -/
theorem decodeCommand_of_code {c : Command} {n : BitVec 3} (h : c.code = n) :
    decodeCommand c = decodeCommand { c with code := n } := by
  subst h
  rfl

/-- Settles O34: each code selects its row of R103, and H.RSVD is refused. -/
theorem hostCodesNameTheOperations : Obligations.HostCodesNameTheOperations :=
  ⟨fun _ => ⟨decodeCommand_of_code, decodeCommand_of_code, decodeCommand_of_code, decodeCommand_of_code,
    decodeCommand_of_code, decodeCommand_of_code, decodeCommand_of_code, decodeCommand_of_code⟩, fun _ => rfl⟩

/-- Settles O55: the decoder computes each unit. -/
theorem specWordsDecode : Obligations.SpecWordsDecode :=
  ⟨rfl, rfl, rfl, rfl, rfl, rfl, rfl, rfl⟩

/-! ### The unit a step runs (R122, R123, R151, R191) -/

/-- Settles O45: each place has its own step. -/
theorem stepRunsTheFetchedUnit : Obligations.StepRunsTheFetchedUnit := by
  intro s hs
  refine ⟨fun i q hc h => ?_, fun e hc h => ?_, fun hc => ?_, fun i q hc h => ?_, fun hc => ?_, fun hc => ?_,
    fun hc => ?_⟩
  · simpa only [setCtl_of_ctl hc] using step_receive_unit hs h
  · rw [← setCtl_of_ctl hc, step_receive_wait hs h]
    rfl
  · rw [← setCtl_of_ctl hc, step_gate hs]
    rfl
  · simpa only [setCtl_of_ctl hc, h] using step_send hs
  · rw [← setCtl_of_ctl hc]
    exact step_sendEnd hs
  · rw [← setCtl_of_ctl hc]
    exact step_latch hs
  · rw [step_of_quiet hs, State.blockMove, hc]
    rfl

/-! ### Decimal text (R91, R152) -/

/-- A property of decimal text: of one digit, and kept where a digit is appended (R152). -/
theorem decNat_induction {P : Nat → List Byte → Prop} (hdigit : ∀ n < 10, P n [digitChar n])
    (happend : ∀ n, 10 ≤ n → P (n / 10) (decNat (n / 10)) → P n (decNat (n / 10) ++ [digitChar (n % 10)]))
    (n : Nat) : P n (decNat n) := by
  induction n using Nat.strong_induction_on with
  | _ n ih =>
    rcases Nat.lt_or_ge n 10 with h | h
    · rw [decNat_of_lt h]
      exact hdigit n h
    · rw [decNat_of_ge h]
      exact happend n h (ih (n / 10) (by omega))

theorem digitChar_toNat {n : Nat} (h : n < 10) : (digitChar n).toNat = 0x30 + n := by
  have hzero : charZero.toNat = 0x30 := rfl
  rw [digitChar, BitVec.toNat_add, BitVec.toNat_ofNat, hzero]
  omega

theorem digitChar_sub_charZero {n : Nat} (h : n < 10) : (digitChar n - charZero).toNat = n := by
  rw [digitChar, BitVec.add_comm, BitVec.add_sub_cancel, BitVec.toNat_ofNat]
  omega

theorem digitsValue_append_digit (l : List Byte) {d : Nat} (h : d < 10) :
    digitsValue (l ++ [digitChar d]) = 10 * digitsValue l + d := by
  rw [digitsValue, List.foldl_append, List.foldl_cons, List.foldl_nil, digitChar_sub_charZero h]
  rfl

theorem digitsValue_decNat (n : Nat) : digitsValue (decNat n) = n := by
  refine decNat_induction (P := fun n l => digitsValue l = n) (fun n h => ?_) (fun n _ ih => ?_) n
  · exact (digitsValue_append_digit [] h).trans (Nat.zero_add n)
  · rw [digitsValue_append_digit _ (Nat.mod_lt n (by decide)), ih, Nat.div_add_mod]

theorem decNat_digits (n : Nat) : ∀ c ∈ decNat n, 0x30 ≤ c.toNat ∧ c.toNat ≤ 0x39 := by
  have hchar {d : Nat} (h : d < 10) : ∀ c ∈ [digitChar d], 0x30 ≤ c.toNat ∧ c.toNat ≤ 0x39 := by
    intro c hc
    rw [List.mem_singleton.mp hc, digitChar_toNat h]
    omega
  refine decNat_induction (P := fun _ l => ∀ c ∈ l, 0x30 ≤ c.toNat ∧ c.toNat ≤ 0x39)
    (fun _ => hchar) (fun n _ ih => ?_) n
  exact List.forall_mem_append.mpr ⟨ih, hchar (Nat.mod_lt n (by decide))⟩

theorem decNat_head?_ne_zero {n : Nat} (hn : n ≠ 0) : (decNat n).head? ≠ some 0x30 := by
  refine decNat_induction (P := fun n l => n ≠ 0 → l.head? ≠ some 0x30) (fun n h hn => ?_) (fun n h ih hn => ?_) n hn
  · intro he
    have hd := digitChar_toNat h
    rw [Option.some.inj he] at hd
    change 0x30 = 0x30 + n at hd
    omega
  · rw [List.head?_append_of_ne_nil _ (decNat_ne_nil _)]
    exact ih (by omega)

@[simp] theorem dec_natCast (n : Nat) : dec (n : Int) = decNat n := rfl

theorem dec_neg_natCast {n : Nat} (h : n ≠ 0) : dec (-(n : Int)) = charMinus :: decNat n := by
  rw [dec, if_pos (by omega), Int.natAbs_neg, Int.natAbs_natCast]

/-- Settles O20: each part follows the digits as R152 appends them. -/
theorem decimalTextDenotesTheNumber : Obligations.DecimalTextDenotesTheNumber := by
  refine ⟨rfl, fun n => ?_⟩
  rw [dec_natCast]
  exact ⟨digitsValue_decNat n, decNat_ne_nil n, decNat_digits n, decNat_head?_ne_zero, dec_neg_natCast⟩

/-! ### The line of TX_SEND (R86) -/

/-- Settles O21: the scan of a template without reserved tag is the recursion of its line. -/
theorem txSendAppendsItsLine : Obligations.TxSendAppendsItsLine := by
  intro s hok
  obtain ⟨n, hn⟩ := txSendOp_eq s
  rw [if_pos hok] at hn
  exact ⟨_, hn, rfl⟩

/-! ### The template check (R100) -/

@[simp] theorem scanOk_nil : scanOk [] = true := rfl

theorem scanOk_of_ne_escMarker {c : Byte} (h : c ≠ escMarker) (q : List Byte) : scanOk (c :: q) = scanOk q := by
  cases q with
  | nil => rfl
  | cons t q => simp only [scanOk, if_neg h]

theorem scanOk_tag (t : Byte) (q : List Byte) : scanOk (escMarker :: t :: q) = (isTagChar t && scanOk q) := by
  simp only [scanOk, if_true]

/-- With TAG_UL_FIX `%ul` is one unit, without it two; the check makes no difference between them. -/
theorem scanOk_ul (q : List Byte) : scanOk (escMarker :: charU :: charL :: q) = scanOk q := by
  rw [scanOk_tag, scanOk_of_ne_escMarker (by decide), show isTagChar charU = true from rfl, Bool.true_and]

theorem isTagChar_iff_decodeTag_ne_tRsvd (t : Byte) : isTagChar t = true ↔ ∀ t', decodeTag t ≠ .tRsvd t' := by
  simp [decodeTag_eq_tRsvd_iff]

/-- The check's recursion looks at the unit that the template decoder reads, and goes on behind it. -/
theorem scanOk_cons_iff (fix : Bool) (c : Byte) (q : List Byte) :
    scanOk (c :: q) = true ↔
      (∀ t, (decodeTemplate fix (c :: q)).1 ≠ .tRsvd t) ∧ scanOk (decodeTemplate fix (c :: q)).2 = true := by
  by_cases hc : c = escMarker
  · subst hc
    rcases q with _ | ⟨t, q⟩
    · simp [decodeTemplate, scanOk]
    by_cases hul : fix = true ∧ t = charU ∧ q.head? = some charL
    · obtain ⟨rfl, rfl, hl⟩ := hul
      obtain ⟨r, rfl⟩ := List.head?_eq_some_iff.mp hl
      rw [decodeTemplate_ul, scanOk_ul]
      simp
    · rw [decodeTemplate_tag hul, scanOk_tag, Bool.and_eq_true, isTagChar_iff_decodeTag_ne_tRsvd]
  · rw [decodeTemplate_of_ne_escMarker hc, scanOk_of_ne_escMarker hc]
    simp

/-- A unit takes at least one character, where there is one. -/
theorem decodeTemplate_rest_length_le (fix : Bool) (q : List Byte) :
    (decodeTemplate fix q).2.length ≤ q.length - 1 := by
  fun_cases decodeTemplate fix q with
  | case1 | case2 | case3 => exact le_rfl
  | case4 => simp; omega
  | case5 => simp

/-- R100 (c) for any bound on the number of units that the characters do not reach. -/
theorem scanOk_iff_unitsOf (fix : Bool) {n : Nat} {q : List Byte} (hn : q.length ≤ n) :
    scanOk q = true ↔ ∀ t, .tRsvd t ∉ unitsOf fix n q := by
  induction n generalizing q with
  | zero =>
    obtain rfl := List.length_eq_zero_iff.mp (Nat.le_zero.mp hn)
    simp [unitsOf]
  | succ n ih =>
    cases q with
    | nil => simp [unitsOf]
    | cons c q =>
      have hrest : (decodeTemplate fix (c :: q)).2.length ≤ n :=
        (decodeTemplate_rest_length_le fix (c :: q)).trans (Nat.sub_le_of_le_add hn)
      rw [scanOk_cons_iff fix, ih hrest, unitsOf]
      simp only [List.mem_cons, not_or, forall_and, ne_eq, eq_comm]

/-- Settles O24: R100 (a) and (b) are the check's own, and (c) is an induction on the units scanned. -/
theorem templateCheckIsTheUnitScan : Obligations.TemplateCheckIsTheUnitScan := by
  intro fix tplMax str
  have hscan : scanOk str = true ↔ ∀ t, .tRsvd t ∉ scanUnits fix str := scanOk_iff_unitsOf fix le_rfl
  rw [← hscan]
  simp [templateOk, and_assoc]

end Sys2Proof.Machine

/-! ## Statements of 40_receiver.md: the wire units, RX_CHECK, frames and the stream of calls -/

namespace Sys2Proof.Machine

/-! ### The wire units (R124 to R126) -/

/-- Settles O1: RX.DISCARD on a source that is not empty. -/
theorem rxDiscardOnlyConsumesItsByte : Obligations.RxDiscardOnlyConsumesItsByte := by
  refine ⟨fun b q hb => decodeWire_of_ne_startMarker hb q, fun b s hq => ?_⟩
  obtain ⟨c, q, hq⟩ := List.exists_cons_of_ne_nil hq
  rw [hq]
  exact execRxDiscard_of_available b hq

/-- Settles O2: RX.START on a source that is not empty. -/
theorem rxStartEntersReceivingData : Obligations.RxStartEntersReceivingData := by
  refine ⟨fun q => rfl, fun s hq => ?_⟩
  obtain ⟨c, q, hq⟩ := List.exists_cons_of_ne_nil hq
  rw [hq]
  exact execRxStart_of_available hq

/-- Settles O3: the assembled word is the concatenation (R127), and the store is `storeWord_eq` at FILL. -/
theorem rxWordStoresBigEndianWord : Obligations.RxWordStoresBigEndianWord := by
  refine ⟨fun a b c d q => rfl, fun a b c d s hq hfill => ?_⟩
  have hiv : s.iv ≠ [] := List.length_pos_iff.mp (by omega)
  calc exec (.rxWord a b c d) s
      = .next ((s.rxDrop 4).storeWord (assemble a b c d)) := execRxWord_of_available a b c d hq hiv
    _ = _ := by rw [storeWord_eq (s.rxDrop 4) _ hfill, assemble_eq_concat]; rfl

/-! ### One call of RX_CHECK (R121 to R123) -/

theorem rxCheck_receiving {s : State} (h : s.rstate = .receivingData) :
    exec .rxCheck s = returnTo s.ctl (dataLoop s.rxq.length s) := by
  simp only [exec, execRxCheck, rxCheckOp, h]

theorem rxCheck_awaiting {s : State} (h : s.rstate = .awaitingStart) :
    exec .rxCheck s = returnTo s.ctl (awaitLoop s.rxq.length s) := by
  simp only [exec, execRxCheck, rxCheckOp, h]

theorem dropWhile_garbage {g : List Byte} (h : startMarker ∉ g) : g.dropWhile (· != startMarker) = [] :=
  List.dropWhile_eq_nil_iff.mpr fun _ hb => bne_iff_ne.mpr (ne_of_mem_of_not_mem hb h)

/-- RX_CHECK in AwaitingStart without a marker empties the source (R122). -/
theorem rxCheck_garbage {s : State} (hr : s.rstate = .awaitingStart) (h : startMarker ∉ s.rxq) :
    exec .rxCheck s = .next { s with rxq := [] } := by
  rw [rxCheck_awaiting hr, awaitLoop_eq _ s le_rfl, if_neg h]
  rfl

/-- RX_CHECK in AwaitingStart with a marker takes it and what stands before it (R122). -/
theorem rxCheck_marker {s : State} (hr : s.rstate = .awaitingStart) (h : startMarker ∈ s.rxq) :
    exec .rxCheck s
      = .next { s with rxq := (s.rxq.dropWhile (· != startMarker)).drop 1, rstate := .receivingData } := by
  rw [rxCheck_awaiting hr, awaitLoop_eq _ s le_rfl, if_pos h]
  rfl

/-- Settles O5: with and without a marker in the source. -/
theorem awaitLoopStopsAtFirstMarker : Obligations.AwaitLoopStopsAtFirstMarker := by
  intro s hr
  by_cases hmem : (0x3C : Byte) ∈ s.rxq
  · rw [if_pos hmem]
    exact rxCheck_marker hr hmem
  · have hall : s.rxq.dropWhile (fun b => b != 0x3C) = [] := dropWhile_garbage hmem
    rw [if_neg hmem, hall, ← hr]
    exact rxCheck_garbage hr hmem

/-- Settles O6: DATA_LOOP with the block's place put back. -/
theorem dataLoopStoresAvailableWords : Obligations.DataLoopStoresAvailableWords := by
  intro s hr hfill
  obtain ⟨t, ht, hstate, hiv⟩ := dataLoop_spec _ s le_rfl hr hfill
  refine ⟨t.setCtl s.ctl, by rw [rxCheck_receiving hr, ht, returnTo_next], ?_, hiv⟩
  exact congrArg (fun u : State => u.setCtl s.ctl) hstate

/-- Settles O9: the first marker of the source, if any, stands behind the garbage. -/
theorem garbageWritesNothing : Obligations.GarbageWritesNothing := by
  intro s g rest hr hg
  refine ⟨fun hq => rxCheck_garbage hr (hq ▸ hg), fun hq => ?_⟩
  have hsplit : s.rxq.dropWhile (· != startMarker) = startMarker :: rest := by
    rw [hq, List.dropWhile_append, dropWhile_garbage hg]
    rfl
  rw [rxCheck_marker hr (hq ▸ List.mem_append_right g List.mem_cons_self), hsplit]
  rfl

/-! ### A frame (R101, R132) -/

theorem headWord_be32 (w : Word) (q : List Byte) : headWord (be32 w ++ q) = w := by
  refine (headWord_cons _ _ _ _ q).trans ?_
  rw [BitVec.extractLsb'_append_extractLsb'_eq_extractLsb' (by rfl),
    BitVec.extractLsb'_append_extractLsb'_eq_extractLsb' (by rfl),
    BitVec.extractLsb'_append_extractLsb'_eq_extractLsb' (by rfl)]
  exact BitVec.extractLsb'_eq_self

theorem drop_flatMap_be32 (v : List Word) (j : Nat) : (v.flatMap be32).drop (4 * j) = (v.drop j).flatMap be32 := by
  induction j generalizing v with
  | zero => rfl
  | succ j ih =>
    cases v with
    | nil => simp
    | cons w v => exact ih v

theorem length_flatMap_be32 (v : List Word) : (v.flatMap be32).length = 4 * v.length := by
  simp [List.length_flatMap, be32, Nat.mul_comm]

/-- The words of a vector stand in its bytes, four bytes each. -/
theorem headWord_drop_flatMap_be32 {v : List Word} {j : Nat} (h : j < v.length) :
    headWord ((v.flatMap be32).drop (4 * j)) = v[j] := by
  rw [drop_flatMap_be32, List.drop_eq_getElem_cons h, List.flatMap_cons, headWord_be32]

/-- RX_CHECK at the start of a frame takes the marker (R122). -/
theorem rxCheck_frame_marker {s : State} (v : List Word) (hr : s.rstate = .awaitingStart) (hq : s.rxq = []) :
    exec .rxCheck (s.deliver (frame v))
      = .next { s with rxq := v.flatMap be32, rstate := .receivingData } :=
  (garbageWritesNothing (s.deliver (frame v)) [] (v.flatMap be32) hr List.not_mem_nil).2 (by rw [deliver_rxq, hq]; rfl)

/-- RX_CHECK with the words of a whole vector available stores them and completes the frame (R123, R129). -/
theorem rxCheck_frame_words {s : State} {v : List Word} (hr : s.rstate = .receivingData) (hfill : s.fill = 0)
    (hq : s.rxq = v.flatMap be32) (hn : s.iv ≠ []) (hlen : v.length = s.iv.length) :
    ∃ t, exec .rxCheck s = .next t ∧ t.iv = v ∧ t.updated = true ∧ t.rstate = .awaitingStart ∧ t.fill = 0
      ∧ t.rxq = [] := by
  have hpos := List.length_pos_iff.mpr hn
  obtain ⟨t, ht, hstate, hiv⟩ := dataLoopStoresAvailableWords s hr (by omega)
  have hbytes : s.rxq.length = 4 * s.iv.length := by rw [hq, length_flatMap_be32, hlen]
  have hk : min (s.rxq.length / 4) (s.iv.length - s.fill) = s.iv.length := by omega
  have hfull : s.fill + s.iv.length = s.iv.length := by omega
  simp only [hk, hfull, decide_true, if_true, Bool.or_true] at hstate hiv
  refine ⟨t, ht, List.ext_getElem? fun j => ?_, ?_⟩
  · rw [hiv j, hq, hfill, ← hlen]
    by_cases hj : j < v.length
    · rw [if_pos ⟨Nat.zero_le j, hj⟩, Nat.sub_zero, headWord_drop_flatMap_be32 hj, List.getElem?_eq_getElem hj]
    · rw [if_neg fun h => hj h.2, List.getElem?_eq_none (by omega), List.getElem?_eq_none (by omega)]
  · rw [hstate]
    exact ⟨rfl, rfl, rfl, List.drop_eq_nil_of_le (by omega)⟩

theorem rxCheck_of_awaiting_empty {s : State} (hr : s.rstate = .awaitingStart) (hq : s.rxq = []) :
    exec .rxCheck s = .next s := by
  rw [rxCheck_awaiting hr, hq]
  rfl

theorem rxChecks_succ {s t : State} (n : Nat) (h : exec .rxCheck s = .next t) : rxChecks (n + 1) s = rxChecks n t := by
  rw [rxChecks, h, andThen_next]

/-- Calls that have nothing to do are idle. -/
theorem rxChecks_of_fixed {s : State} (h : exec .rxCheck s = .next s) (n : Nat) : rxChecks n s = .next s := by
  induction n with
  | zero => rfl
  | succ n ih => rw [rxChecks_succ n h, ih]

/-- Settles O7: the marker's call, the words' call, and any number of calls that have nothing to do. -/
theorem frameRoundTrip : Obligations.FrameRoundTrip := by
  refine ⟨fun p => ⟨rfl, rfl, rfl⟩, fun s v hr hfill hq hn hlen => ?_⟩
  have hmarker := rxCheck_frame_marker v hr hq
  obtain ⟨t, ht, hiv, hupd, htr, htfill, htq⟩ := rxCheck_frame_words
    (s := { s with rxq := v.flatMap be32, rstate := .receivingData }) rfl hfill rfl hn hlen
  have hfixed := rxCheck_of_awaiting_empty htr htq
  have hpos := List.length_pos_iff.mpr hn
  obtain ⟨m, hm⟩ : ∃ m, (s.deliver (frame v)).rxq.length = m + 1 + 1 := by
    refine ⟨4 * v.length - 1, ?_⟩
    rw [deliver_rxq, hq, List.nil_append, frame, List.length_cons, length_flatMap_be32]
    omega
  refine ⟨_, t, hmarker, rfl, rfl, ht, hiv, hupd, htr, htfill, htq, hfixed, ?_⟩
  rw [drain, hm, rxChecks_succ _ hmarker, rxChecks_succ _ ht, rxChecks_of_fixed hfixed]

end Sys2Proof.Machine

/-! ## Statements of 40_receiver.md: reception does not depend on chunks and calls (R131)

Calls of RX_CHECK are cut into single wire units. A unit looks only at the bytes it consumes, so it is the same with
more bytes delivered behind them, and the state determines it: whatever the chunks and calls, the states they reach lie
on one path of units, which ends where the source holds no whole unit. -/

namespace Sys2Proof.Machine

/-! ### The unit at the head of the source -/

theorem decodeWire_append {m : RState} {q rest : List Byte} {i : Instr} (h : decodeWire m q = .ok (i, rest))
    (l : List Byte) : decodeWire m (q ++ l) = .ok (i, rest ++ l) := by
  unfold decodeWire at h
  split at h <;> cases h <;> rfl

theorem decodeWire_rest_length_lt {m : RState} {q rest : List Byte} {i : Instr}
    (h : decodeWire m q = .ok (i, rest)) : rest.length < q.length := by
  unfold decodeWire at h
  split at h <;> cases h <;> simp only [List.length_cons] <;> omega

theorem storeWord_deliver (s : State) (l : List Byte) (v : Word) :
    (s.deliver l).storeWord v = (s.storeWord v).deliver l := by
  refine (storeWord_withEnv s (s.rxq ++ l) s.clk s.inputs v).trans ?_
  simp [State.withEnv, State.deliver]

/-- The unit at the head of the source completes, consumes its own bytes, and does the same with more bytes behind. -/
theorem exec_fetchedWireUnit {s : State} {i : Instr} {rest : List Byte} (hn : s.iv ≠ [])
    (h : decodeWire s.rstate s.rxq = .ok (i, rest)) :
    ∃ t, exec i s = .next t ∧ t.rxq = rest ∧ ∀ l, exec i (s.deliver l) = .next (t.deliver l) := by
  obtain ⟨bytes, hbytes, hq, -⟩ := encode_of_decodeWire h
  have hql (l : List Byte) : (s.deliver l).rxq = bytes ++ (rest ++ l) := by rw [deliver_rxq, hq, List.append_assoc]
  obtain ⟨b, rfl⟩ | rfl | ⟨-, a, b, c, d, rfl⟩ := decodeWire_cases h <;>
    obtain ⟨-, rfl⟩ := Encoding.wire.inj (Option.some.inj hbytes)
  · exact ⟨_, execRxDiscard_of_available b hq, rfl, fun l => execRxDiscard_of_available b (hql l)⟩
  · exact ⟨_, execRxStart_of_available hq, rfl, fun l => execRxStart_of_available (hql l)⟩
  · have hlen (r : List Byte) : 4 ≤ ([a, b, c, d] ++ r).length := Nat.le_add_left 4 _
    refine ⟨_, execRxWord_of_available a b c d (hq ▸ hlen rest) hn, ?_, fun l => ?_⟩
    · rw [storeWord_rxq, rxDrop_rxq, hq]
      rfl
    · have hdrop : (s.deliver l).rxDrop 4 = (s.rxDrop 4).deliver l := by
        simp only [State.rxDrop, State.deliver, List.drop_append_of_le_length (hq ▸ hlen rest)]
      rw [← storeWord_deliver, ← hdrop]
      exact execRxWord_of_available a b c d (hql l ▸ hlen _) hn

/-! ### Paths of units -/

/-- N_IN ≥ 1, and the unit at the head of the source leads to `t`, where the block stands at the same place. -/
def State.UnitStep (s t : State) : Prop :=
  s.iv ≠ [] ∧ ∃ i rest, decodeWire s.rstate s.rxq = .ok (i, rest) ∧ returnTo s.ctl (exec i s) = .next t

/-- Some number of units lead to the other state. -/
abbrev State.Units : State → State → Prop := Relation.ReflTransGen State.UnitStep

/-- The source holds no whole unit: the receiver waits (R122, R123). -/
def State.Settled (s : State) : Prop := ∃ e, decodeWire s.rstate s.rxq = .error e

theorem unitStep_rightUnique : Relator.RightUnique State.UnitStep := by
  rintro s t u ⟨-, i, rest, hi, ht⟩ ⟨-, j, rest', hj, hu⟩
  cases hi.symm.trans hj
  cases ht.symm.trans hu
  rfl

theorem unitStep_of_exec {s t : State} {i : Instr} {rest : List Byte} (hn : s.iv ≠ [])
    (hi : decodeWire s.rstate s.rxq = .ok (i, rest)) (ht : exec i s = .next t) : s.UnitStep (t.setCtl s.ctl) :=
  ⟨hn, i, rest, hi, by rw [ht, returnTo_next]⟩

theorem State.UnitStep.length_lt {s t : State} (h : s.UnitStep t) : t.rxq.length < s.rxq.length := by
  obtain ⟨hn, i, rest, hi, ht⟩ := h
  obtain ⟨u, hu, hrest, -⟩ := exec_fetchedWireUnit hn hi
  rw [hu, returnTo_next] at ht
  cases ht
  rw [setCtl_rxq, hrest]
  exact decodeWire_rest_length_lt hi

theorem State.UnitStep.iv_ne_nil {s t : State} (h : s.UnitStep t) : t.iv ≠ [] := by
  obtain ⟨hn, i, rest, hi, ht⟩ := h
  obtain ⟨u, hu, rfl⟩ := returnTo_eq_next.mp ht
  obtain ⟨-, hlen, -⟩ := exec_setting hu
  exact List.ne_nil_of_length_pos (hlen ▸ List.length_pos_iff.mpr hn)

theorem State.UnitStep.deliver {s t : State} (h : s.UnitStep t) (l : List Byte) :
    (s.deliver l).UnitStep (t.deliver l) := by
  obtain ⟨hn, i, rest, hi, ht⟩ := h
  obtain ⟨u, hu, -, hdeliver⟩ := exec_fetchedWireUnit hn hi
  rw [hu, returnTo_next] at ht
  cases ht
  exact unitStep_of_exec (s := s.deliver l) hn (decodeWire_append hi l) (hdeliver l)

theorem State.Units.length_le {s t : State} (h : s.Units t) : t.rxq.length ≤ s.rxq.length := by
  induction h with
  | refl => exact le_rfl
  | tail _ hstep ih => exact hstep.length_lt.le.trans ih

theorem State.Units.iv_ne_nil {s t : State} (h : s.Units t) (hn : s.iv ≠ []) : t.iv ≠ [] := by
  induction h with
  | refl => exact hn
  | tail _ hstep _ => exact hstep.iv_ne_nil

theorem State.Units.deliver {s t : State} (h : s.Units t) (l : List Byte) : (s.deliver l).Units (t.deliver l) :=
  h.lift (fun u => u.deliver l) fun _ _ hstep => hstep.deliver l

/-- A path of units goes no further than a settled state. -/
theorem State.Settled.eq_of_units {s t : State} (hs : s.Settled) (h : s.Units t) : t = s := by
  obtain rfl | ⟨u, ⟨-, i, rest, hi, -⟩, -⟩ := h.cases_head
  · rfl
  · obtain ⟨e, he⟩ := hs
    cases he.symm.trans hi

theorem settled_unique {s t u : State} (ht : s.Units t) (hts : t.Settled) (hu : s.Units u) (hus : u.Settled) :
    t = u := by
  rcases Relation.ReflTransGen.total_of_right_unique unitStep_rightUnique ht hu with h | h
  · exact (hts.eq_of_units h).symm
  · exact hus.eq_of_units h

theorem settled_of_empty {s : State} (h : s.rxq = []) : s.Settled := by
  unfold State.Settled
  rw [h]
  cases s.rstate with
  | awaitingStart => exact ⟨.emptySource, rfl⟩
  | receivingData => exact ⟨.shortWord, rfl⟩

/-! ### RX_CHECK as a path of units -/

/-- The outcome goes on where units lead, and a whole unit was consumed unless there was none. -/
def AdvancesTo (s : State) (o : Out) : Prop :=
  ∃ t, o = .next t ∧ s.Units t ∧ (t.Settled ∨ t.rxq.length < s.rxq.length)

theorem advancesTo_of_settled {s : State} (h : s.Settled) : AdvancesTo s (returnTo s.ctl (.next s)) :=
  ⟨s, rfl, .refl, .inl h⟩

/-- One turn of a receive loop: the unit, after which the loop stops or goes on at the same place. -/
theorem advancesTo_turn {s : State} {i : Instr} {rest : List Byte} {f : State → Out} (hn : s.iv ≠ [])
    (hi : decodeWire s.rstate s.rxq = .ok (i, rest))
    (hf : ∀ t, exec i s = .next t → t.rxq = rest → t.iv ≠ [] →
      f t = .next t ∨ t.ctl = s.ctl ∧ AdvancesTo t (returnTo t.ctl (f t))) :
    AdvancesTo s (returnTo s.ctl (andThen (exec i s) f)) := by
  obtain ⟨t, ht, hrest, -⟩ := exec_fetchedWireUnit hn hi
  have hstep := unitStep_of_exec hn hi ht
  rw [ht, andThen_next]
  rcases hf t ht hrest hstep.iv_ne_nil with hstop | ⟨hc, hgo⟩
  · rw [hstop, returnTo_next]
    exact ⟨_, rfl, .single hstep, .inr hstep.length_lt⟩
  · rw [setCtl_of_ctl hc] at hstep
    rw [hc] at hgo
    obtain ⟨u, hu, hunits, -⟩ := hgo
    exact ⟨u, hu, .head hstep hunits, .inr (hunits.length_le.trans_lt hstep.length_lt)⟩

theorem awaitLoop_advances (n : Nat) {s : State} (hn : s.iv ≠ []) (hr : s.rstate = .awaitingStart)
    (hlen : s.rxq.length ≤ n) : AdvancesTo s (returnTo s.ctl (awaitLoop n s)) := by
  induction n generalizing s with
  | zero => exact advancesTo_of_settled (settled_of_empty (List.eq_nil_of_length_eq_zero (by omega)))
  | succ n ih =>
    cases hq : s.rxq with
    | nil =>
      simp only [awaitLoop, hq]
      exact advancesTo_of_settled (settled_of_empty hq)
    | cons b q =>
      have hdecode : decodeWire s.rstate s.rxq = .ok (if b = startMarker then .rxStart else .rxDiscard b, q) := by
        rw [hr, hq]
        rfl
      by_cases hb : b = startMarker
      · have hloop : awaitLoop (n + 1) s = andThen (exec .rxStart s) .next := by
          simp only [awaitLoop, hq, if_pos hb, exec, execRxStart_of_available hq, andThen_next]
        rw [if_pos hb] at hdecode
        rw [hloop]
        exact advancesTo_turn hn hdecode fun _ _ _ _ => .inl rfl
      · have hloop : awaitLoop (n + 1) s = andThen (exec (.rxDiscard b) s) fun t => awaitLoop n t := by
          simp only [awaitLoop, hq, if_neg hb, exec]
        rw [if_neg hb] at hdecode
        rw [hloop]
        refine advancesTo_turn hn hdecode fun t ht _ htn => .inr ?_
        cases ht.symm.trans (execRxDiscard_of_available b hq)
        rw [hq, List.length_cons] at hlen
        exact ⟨rfl, ih htn hr (Nat.le_of_succ_le_succ hlen)⟩

theorem dataLoop_advances (n : Nat) {s : State} (hn : s.iv ≠ []) (hr : s.rstate = .receivingData)
    (hlen : s.rxq.length ≤ n) : AdvancesTo s (returnTo s.ctl (dataLoop n s)) := by
  induction n generalizing s with
  | zero => exact advancesTo_of_settled (settled_of_empty (List.eq_nil_of_length_eq_zero (by omega)))
  | succ n ih =>
    by_cases hshort : s.rxq.length < 4
    · rw [dataLoop_short _ hshort]
      exact advancesTo_of_settled ⟨.shortWord, by rw [hr, decodeWire_short hshort]⟩
    · obtain ⟨a, b, c, d, q, hq⟩ := exists_four (Nat.not_lt.mp hshort)
      have hdecode : decodeWire s.rstate s.rxq = .ok (.rxWord a b c d, q) := by rw [hr, hq]; rfl
      have hloop : dataLoop (n + 1) s
          = andThen (exec (.rxWord a b c d) s) fun t => if t.fill = 0 then .next t else dataLoop n t := by
        simp only [dataLoop, hq, exec]
      rw [hloop]
      refine advancesTo_turn hn hdecode fun t ht hrest htn => ?_
      by_cases hfill : t.fill = 0
      · exact .inl (if_pos hfill)
      · cases ht.symm.trans (execRxWord_of_available a b c d (Nat.not_lt.mp hshort) hn)
        rw [if_neg hfill]
        rw [storeWord_fill] at hfill
        refine .inr ⟨by rw [storeWord_ctl, if_neg hfill, rxDrop_ctl], ih htn ?_ ?_⟩
        · rw [storeWord_rstate, if_neg hfill, rxDrop_rstate, hr]
        · rw [hrest]
          exact Nat.le_of_lt_succ ((decodeWire_rest_length_lt hdecode).trans_le hlen)

theorem rxCheck_advances {s : State} (hn : s.iv ≠ []) : AdvancesTo s (exec .rxCheck s) := by
  cases hr : s.rstate with
  | awaitingStart => exact rxCheck_awaiting hr ▸ awaitLoop_advances _ hn hr le_rfl
  | receivingData => exact rxCheck_receiving hr ▸ dataLoop_advances _ hn hr le_rfl

/-- Calls of RX_CHECK follow the path of units, as many as there are bytes to its end. -/
theorem rxChecks_units (n : Nat) {s : State} (hn : s.iv ≠ []) :
    ∃ t, rxChecks n s = .next t ∧ s.Units t ∧ (s.rxq.length ≤ n → t.Settled) := by
  induction n generalizing s with
  | zero => exact ⟨s, rfl, .refl, fun h => settled_of_empty (List.eq_nil_of_length_eq_zero (by omega))⟩
  | succ n ih =>
    obtain ⟨u, hu, hsu, hrest⟩ := rxCheck_advances hn
    obtain ⟨t, ht, hut, hend⟩ := ih (hsu.iv_ne_nil hn)
    refine ⟨t, by rw [rxChecks_succ n hu, ht], hsu.trans hut, fun hlen => ?_⟩
    rcases hrest with hsettled | hlt
    · rw [hsettled.eq_of_units hut]
      exact hsettled
    · exact hend (by omega)

theorem drain_units {s : State} (hn : s.iv ≠ []) : ∃ t, drain s = .next t ∧ s.Units t ∧ t.Settled := by
  obtain ⟨t, ht, hunits, hend⟩ := rxChecks_units s.rxq.length hn
  exact ⟨t, ht, hunits, hend le_rfl⟩

/-! ### Chunks -/

theorem deliver_nil (s : State) : s.deliver [] = s := by
  simp [State.deliver]

theorem deliver_append (s : State) (l m : List Byte) : s.deliver (l ++ m) = (s.deliver l).deliver m := by
  simp [State.deliver]

/-- Where chunks and calls lead lies on the path of units from all the bytes delivered at once. -/
theorem feed_units (chunks : List (List Byte × Nat)) {s : State} (hn : s.iv ≠ []) :
    ∃ t, feed chunks s = .next t ∧ (s.deliver (chunks.flatMap fun c => c.1)).Units t := by
  induction chunks generalizing s with
  | nil => exact ⟨s, rfl, by rw [List.flatMap_nil, deliver_nil]⟩
  | cons chunk chunks ih =>
    obtain ⟨bytes, n⟩ := chunk
    obtain ⟨u, hu, hsu, -⟩ := rxChecks_units n (s := s.deliver bytes) hn
    obtain ⟨t, ht, hut⟩ := ih (hsu.iv_ne_nil hn)
    refine ⟨t, by rw [feed, hu, andThen_next, ht], ?_⟩
    rw [List.flatMap_cons, deliver_append]
    exact (hsu.deliver _).trans hut

/-- Settles O8: both sides end where the one path of units from all the bytes ends. -/
theorem receptionIsChunkInvariant : Obligations.ReceptionIsChunkInvariant := by
  intro s chunks hn
  obtain ⟨r, hr, hsr⟩ := feed_units chunks hn
  obtain ⟨t, ht, hrt, htend⟩ := drain_units (hsr.iv_ne_nil hn)
  obtain ⟨u, hu, hsu, huend⟩ := drain_units (s := s.deliver (chunks.flatMap fun c => c.1)) hn
  rw [hr, andThen_next, ht, hu, settled_unique (hsr.trans hrt) htend hsu huend]

end Sys2Proof.Machine

/-! ## Statements of 41_transmitter.md: the template units, reserved tags, decimal text, the line of TX_SEND -/

namespace Sys2Proof.Machine

/-! ### Decoding a tag (R89, R90) -/

/-- Only `%u` can be the beginning of a longer unit, so any other tag is read alike with and without TAG_UL_FIX. -/
theorem decodeTemplate_tag_of_ne_charU {t : Byte} (h : t ≠ charU) (fix : Bool) (q : List Byte) :
    decodeTemplate fix (escMarker :: t :: q) = (decodeTag t, q) :=
  decodeTemplate_tag fun hul => h hul.2.1

theorem decodeTemplate_tag_withoutFix (t : Byte) (q : List Byte) :
    decodeTemplate false (escMarker :: t :: q) = (decodeTag t, q) :=
  decodeTemplate_tag fun hul => Bool.false_ne_true hul.1

/-! ### Executing a tag (R153, R155 to R158) -/

theorem exec_decodeTag_of_element {t : Byte} (ht : isTagChar t = true) {s : State} {w : Word}
    (hw : s.ov[s.cur]? = some w) :
    exec (decodeTag t) s
      = .next { s with txs := s.txs ++ dec (tagConv s.cfg.intW t w), cur := s.cur + 1, ti := s.ti + 2 } := by
  rw [exec_decodeTag ht, render_of_element (s := s.tiAdvance 2) _ hw]
  rfl

theorem exec_decodeTag_of_exhausted {t : Byte} (ht : isTagChar t = true) {s : State} (h : s.ov.length ≤ s.cur) :
    exec (decodeTag t) s = .next { s with txs := s.txs ++ [charZero], ti := s.ti + 2 } := by
  rw [exec_decodeTag ht, render_of_exhausted (s := s.tiAdvance 2) _ h]
  rfl

/-! ### The conversions (R163) -/

theorem convL_eq (w : Word) :
    convL w = if w.toNat < 2 ^ 31 then (w.toNat : Int) else (w.toNat : Int) - 2 ^ 32 := by
  rw [convL, BitVec.toInt_eq_toNat_cond]
  split <;> split <;> omega

/-- Keeping the low 16 bits and reading them in two's complement is R163's formula. -/
theorem convD_w16 (w : Word) : convD .w16 w = (w.toInt + 32768) % 65536 - 32768 := by
  rw [convD, BitVec.toInt_eq_toNat_cond, BitVec.toInt_eq_toNat_cond, BitVec.toNat_setWidth]
  split <;> split <;> omega

/-! ### The template units -/

/-- Settles O10: any character but the marker. -/
theorem literalIsCopied : Obligations.LiteralIsCopied :=
  ⟨fun fix _ q hc => decodeTemplate_of_ne_escMarker hc fix q, fun _ _ => rfl⟩

/-- Settles O11: the tag character `l`, whose conversion is the signed word. -/
theorem tagLRendersSigned : Obligations.TagLRendersSigned := by
  refine ⟨decodeTemplate_tag_of_ne_charU (t := charL) (by decide), fun s w hw => ?_,
    fun s => exec_decodeTag_of_exhausted (t := charL) rfl⟩
  rw [← convL_eq]
  exact exec_decodeTag_of_element (t := charL) rfl hw

/-- Settles O12: the tag character `u`. -/
theorem tagURendersUnsigned : Obligations.TagURendersUnsigned :=
  ⟨decodeTemplate_tag_withoutFix charU, fun _ _ => exec_decodeTag_of_element (t := charU) rfl,
    fun _ => exec_decodeTag_of_exhausted (t := charU) rfl⟩

/-- Settles O13: the tag characters `d` and `i`, whose conversion narrows by R163. -/
theorem tagsDAndINarrowToIntWidth : Obligations.TagsDAndINarrowToIntWidth := by
  refine ⟨fun fix q => ⟨decodeTemplate_tag_of_ne_charU (t := charD) (by decide) fix q,
      decodeTemplate_tag_of_ne_charU (t := charI) (by decide) fix q⟩,
    fun s w hw => ?_,
    fun s h => ⟨exec_decodeTag_of_exhausted (t := charD) rfl h, exec_decodeTag_of_exhausted (t := charI) rfl h⟩⟩
  have hd := exec_decodeTag_of_element (t := charD) rfl hw
  have hi := exec_decodeTag_of_element (t := charI) rfl hw
  cases hk : s.cfg.intW with
  | w16 =>
    rw [hk] at hd hi
    dsimp only
    rw [← convD_w16]
    exact ⟨hd, hi⟩
  | w32 =>
    rw [hk] at hd hi
    exact ⟨hd, hi⟩

/-- Settles O14: the place that T.TRUNC leaves the block at is the one whose step is T.EOL. -/
theorem unterminatedEscapeEndsTheScan : Obligations.UnterminatedEscapeEndsTheScan := by
  refine ⟨fun _ => rfl, fun _ => rfl, fun s hc hs => ?_⟩
  rw [← setCtl_of_ctl hc]
  exact step_sendEnd hs

/-- Settles O15: the end of the template. -/
theorem eolAppendsNewline : Obligations.EolAppendsNewline :=
  ⟨fun _ => rfl, fun _ => rfl⟩

/-- Settles O16: the unit, and a TX_SEND whose scan meets it. -/
theorem reservedTagIsRefused : Obligations.ReservedTagIsRefused := by
  refine ⟨fun fix t q hl hu hd hi => ?_, fun _ _ => rfl, fun s hscan => ?_⟩
  · have ht : isTagChar t = false := by
      rw [← Bool.not_eq_true, isTagChar_iff]
      exact fun h => h.elim hl fun h => h.elim hu fun h => h.elim hd hi
    rw [← decodeTag_of_reserved ht]
    exact decodeTemplate_tag_of_ne_charU hu fix q
  · obtain ⟨n, hn⟩ := txSendOp_eq s
    rw [hscan] at hn
    exact hn

/-- Without TAG_UL_FIX `%ul` runs T.U and then the literal `l` (R161). -/
theorem exec_ul_withoutFix {s : State} (h : s.cfg.tagUlFix = false) :
    exec .ul s = andThen (exec .tU s) (exec (.tLit charL)) := by
  change execUl s = _
  rw [execUl, h]
  rfl

/-- Settles O17: T.U with and without an element at CUR, and the literal behind it. -/
theorem ulIsTagUThenLiteral : Obligations.UlIsTagUThenLiteral := by
  refine ⟨fun q => ⟨decodeTemplate_tag_withoutFix charU _, rfl⟩, fun s hfix => ?_⟩
  rw [exec_ul_withoutFix hfix]
  cases hw : s.ov[s.cur]? with
  | some w =>
    obtain ⟨hlt, -⟩ := List.getElem?_eq_some_iff.mp hw
    have hunit : exec .tU s = _ := exec_decodeTag_of_element (t := charU) rfl hw
    rw [hunit, if_pos hlt]
    rfl
  | none =>
    have hle := List.getElem?_eq_none_iff.mp hw
    have hunit : exec .tU s = _ := exec_decodeTag_of_exhausted (t := charU) rfl hle
    rw [hunit, if_neg (Nat.not_lt.mpr hle)]
    rfl

/-! ### Decimal text (R152) -/

/-- Settles O19: the sign, and the two equations of the digits. -/
theorem decimalTextFollowsItsEquations : Obligations.DecimalTextFollowsItsEquations := by
  refine ⟨fun n hn => ?_, fun n hn => decNat_of_lt (Nat.lt_succ_of_le hn), fun n hn => decNat_of_ge hn⟩
  obtain ⟨m, rfl⟩ := Int.exists_eq_neg_ofNat hn.le
  rw [neg_neg]
  exact dec_neg_natCast (by omega)

/-! ### The length of a line (R164) -/

theorem dec_length_pos (n : Int) : 1 ≤ (dec n).length := by
  have hpos := List.length_pos_iff.mpr (decNat_ne_nil n.natAbs)
  unfold dec
  split
  · exact Nat.succ_pos _
  · exact hpos

/-- A sign and ten digits suffice for every number of 32 bits, signed or unsigned. -/
theorem dec_length_le {n : Int} (h : n.natAbs ≤ 2 ^ 32) : (dec n).length ≤ 11 := by
  have hdigits : (decNat n.natAbs).length ≤ 10 := decNat_length_le 9 n.natAbs (by omega)
  unfold dec
  split
  · exact Nat.succ_le_succ hdigits
  · exact hdigits.trans (by decide)

theorem natAbs_tagConv_le (k : IntWidth) (t : Byte) (w : Word) : (tagConv k t w).natAbs ≤ 2 ^ 32 := by
  have hw := w.isLt
  have hsigned : w.toInt.natAbs ≤ 2 ^ 32 := by
    rw [BitVec.toInt_eq_toNat_cond]
    split <;> omega
  unfold tagConv
  split
  · exact hsigned
  split
  · exact hw.le
  · cases k with
    | w16 => rw [convD_w16]; omega
    | w32 => exact hsigned

/-- What a tag writes: an element in decimal, or the character `0` (R153). -/
theorem fieldText_length (k : IntWidth) (t : Byte) (ov : List Word) :
    1 ≤ (fieldText (tagConv k t) ov).length ∧ (fieldText (tagConv k t) ov).length ≤ 11 := by
  cases ov with
  | nil => exact ⟨le_rfl, Nat.succ_le_succ (Nat.zero_le 10)⟩
  | cons w ov => exact ⟨dec_length_pos _, dec_length_le (natAbs_tagConv_le k t w)⟩

/-- A line has its newline, and no unit writes more than eleven bytes for each of its characters. -/
theorem renderLine_length (fix : Bool) (k : IntWidth) (q : List Byte) (ov : List Word) :
    1 ≤ (renderLine fix k q ov).length ∧ (renderLine fix k q ov).length ≤ 1 + 11 * q.length := by
  fun_induction renderLine fix k q ov with
  | case1 | case2 | case3 => simp
  | case4 t ov =>
    have htext := fieldText_length k t ov
    simp only [List.length_append, List.length_cons, List.length_nil]
    omega
  | case5 c t ov hc ih | case8 c t l rest ov hc ih =>
    simp only [List.length_cons] at ih ⊢
    omega
  | case6 t l rest ov hul ih =>
    have htext : _ ∧ (fieldText convU ov).length ≤ 11 := fieldText_length k charU ov
    simp only [List.length_append, List.length_cons]
    omega
  | case7 t l rest ov hul ih =>
    have htext := fieldText_length k t ov
    simp only [List.length_append, List.length_cons] at ih ⊢
    omega

/-- Settles O22: the line that TX_SEND appends has the bounds. -/
theorem lineLengthIsBounded : Obligations.LineLengthIsBounded := by
  intro s hscan
  obtain ⟨t, ht, hstate⟩ := txSendAppendsItsLine s hscan
  obtain ⟨hmin, hmax⟩ := renderLine_length s.cfg.tagUlFix s.cfg.intW s.tpl s.ov
  have htxs : t.txs.length = s.txs.length + s.line.length := by rw [hstate, List.length_append]
  refine ⟨t, ht, ?_, ?_⟩
  · rw [htxs]
    exact Nat.add_le_add_left hmin _
  · rw [htxs]
    exact Nat.add_le_add_left hmax _

/-! ### The source's example (R165) -/

/-- The line of the source's example does not depend on TAG_UL_FIX or INT_W: it has only T.L tags. -/
theorem renderLine_sourceExample (fix : Bool) (k : IntWidth) :
    renderLine fix k [0x53, 0x20, 0x25, 0x6C, 0x20, 0x25, 0x6C, 0x20, 0x25, 0x6C, 0x20, 0x45]
        [0x00000001, 0xFFFFFFFE, 0x00000003]
      = [0x53, 0x20, 0x31, 0x20, 0x2D, 0x32, 0x20, 0x33, 0x20, 0x45, 0x0A] := by
  cases fix <;> rfl

/-- Settles O23: the template has no reserved tag, so TX_SEND appends its line. -/
theorem sourceExampleLine : Obligations.SourceExampleLine := by
  intro s hov htpl
  obtain ⟨t, ht, hstate⟩ := txSendAppendsItsLine s (by rw [htpl]; rfl)
  refine ⟨t, ht, ?_⟩
  rw [hstate, State.line, htpl, hov, renderLine_sourceExample]

end Sys2Proof.Machine

/-! ## Statements of 42_connector.md: POLL and its gate, the flag, the enable bit, the template and the vectors -/

namespace Sys2Proof.Machine

/-! ### The interval gate (R192, R199) -/

/-- The elapsed time is the difference of the readings modulo `2 ^ w`. -/
theorem elapsed_cast (w now last : Nat) : (elapsed w now last : Int) = ((now : Int) - (last : Int)) % 2 ^ w := by
  have hle : last % 2 ^ w ≤ 2 ^ w := (Nat.mod_lt _ (Nat.two_pow_pos w)).le
  calc (elapsed w now last : Int)
      = ((now : Int) - (last : Int) % 2 ^ w + 2 ^ w) % 2 ^ w := by
        rw [elapsed]
        push_cast [Nat.cast_sub hle]
        rw [sub_add_eq_add_sub, add_sub_assoc]
    _ = ((now : Int) - (last : Int)) % 2 ^ w := by rw [Int.add_emod_right, Int.sub_emod_emod]

/-- A clock that advanced by less than its range since the baseline reads the advance, also across the wrap (R199). -/
theorem elapsed_of_advance {w d : Nat} (last : Nat) (h : d < 2 ^ w) : elapsed w ((last + d) % 2 ^ w) last = d := by
  zify
  rw [elapsed_cast]
  push_cast
  rw [Int.emod_sub_emod, add_sub_cancel_left]
  exact Int.emod_eq_of_lt (Int.natCast_nonneg d) (mod_cast h)

/-- Settles O26: the gate compares the modular difference, and no difference is below an interval of 0. -/
theorem intervalGateIsModular : Obligations.IntervalGateIsModular := by
  refine ⟨elapsed_cast, fun _ last _ h => elapsed_of_advance last h, fun s => ?_, fun s h => ?_⟩
  · rw [State.due, decide_eq_true_iff, ← elapsed_cast, Int.ofNat_le]
  · exact decide_eq_true (h.trans_le (Nat.zero_le _))

/-! ### POLL (R191) -/

/-- RX_CHECK completes when FILL is in range, and leaves what POLL reads behind it as it was. -/
theorem rxCheck_completes {s : State} (h : s.fill < s.iv.length) :
    ∃ r, exec .rxCheck s = .next r ∧ r.sansReception = s.sansReception := by
  have hn : s.iv ≠ [] := List.ne_nil_of_length_pos (Nat.zero_lt_of_lt h)
  obtain ⟨r, hr, -⟩ := rxCheck_advances hn
  exact ⟨r, hr, (rxCheckOp_received s r hr).1⟩

/-- An enabled POLL is RX_CHECK, the clock reading and the gate (R191 (2), (3)). -/
theorem execPoll_of_enabled {s r : State} (he : s.enabled = true) (hr : exec .rxCheck s = .next r) :
    exec .poll s = if r.due then andThen (txSendOp r.sampleClock) fun u => .next u.latchLastSend
      else .next r.sampleClock := by
  have hr' : rxCheckOp s = .next r := hr
  have hen : ¬ s.enabled = false := by simp [he]
  rw [exec, execPoll, if_neg hen, hr']
  rfl

/-- Settles O25: RX_CHECK leaves the clock, the gate's operands and the line alone, so the gate and the line that POLL
finds behind it are those of the state it began in. -/
theorem pollReceivesThenSendsWhenDue : Obligations.PollReceivesThenSendsWhenDue := by
  refine ⟨fun _ => decodeCommand_of_code, fun s hfill hok => ⟨fun he => if_pos he, fun he => ?_⟩⟩
  obtain ⟨r, hr, hframe⟩ := rxCheck_completes hfill
  have hclk : r.clk = s.clk := (congrArg State.clk hframe :)
  have hdue : r.due = s.due := (congrArg State.due hframe :)
  have hline : r.line = s.line := (congrArg State.line hframe :)
  have htxs : r.txs = s.txs := (congrArg State.txs hframe :)
  have htpl : r.tpl = s.tpl := (congrArg State.tpl hframe :)
  rw [execPoll_of_enabled he hr, hdue]
  refine ⟨r, ?_⟩
  cases s.due with
  | false => exact ⟨_, hr, rfl, by rw [State.sampleClock, hclk]; rfl⟩
  | true =>
    obtain ⟨n, hn⟩ := txSendOp_eq r.sampleClock
    have hscan : scanOk r.sampleClock.tpl = true := by rwa [sampleClock_tpl, htpl]
    rw [if_pos hscan] at hn
    refine ⟨_, hr, by rw [if_pos rfl, hn, andThen_next], ?_⟩
    rw [← hclk, ← htxs, ← hline]
    rfl

/-! ### TAKE_UPDATED, SET_ENABLED, SET_TEMPLATE (R193 to R195) -/

/-- Settles O27: the first take leaves the flag clear, and the second returns it. -/
theorem takeUpdatedReturnsAndClears : Obligations.TakeUpdatedReturnsAndClears :=
  ⟨fun _ => decodeCommand_of_code, fun s => ⟨s.takeFlag, s.takeFlag.takeFlag, rfl, rfl, rfl, rfl⟩⟩

/-- Settles O28: the host's bit is stored as it is. -/
theorem setEnabledWritesOnlyEnabled : Obligations.SetEnabledWritesOnlyEnabled :=
  ⟨fun _ => decodeCommand_of_code, fun _ _ => rfl⟩

/-- Settles O29: the check of R100 decides between the two. -/
theorem setTemplateReplacesWholeStore : Obligations.SetTemplateReplacesWholeStore :=
  ⟨fun _ => decodeCommand_of_code, fun _ _ => ⟨fun h => if_pos h, fun h => if_neg (by simp [h])⟩⟩

/-! ### The host's vector accesses (R196 to R198) -/

theorem elementAt_of_lt {v : List Word} {i : Nat} (h : i < v.length) : elementAt v i = some (v.getD i 0) := by
  rw [elementAt, List.getElem?_eq_getElem h, List.getD_eq_getElem _ _ h]

theorem elementAt_of_le {v : List Word} {i : Nat} (h : v.length ≤ i) : elementAt v i = none :=
  List.getElem?_eq_none h

/-- Settles O30: the element exists exactly inside the vector. -/
theorem ivReadReturnsElement : Obligations.IvReadReturnsElement := by
  refine ⟨fun _ => decodeCommand_of_code, fun i s => ⟨fun h => ?_, fun h => ?_⟩⟩
  · rw [exec, execIvRead, elementAt_of_lt h]
    rfl
  · rw [exec, execIvRead, elementAt_of_le h]

/-- Settles O31: the bound check decides between the store and the refusal. -/
theorem ovWriteWritesElement : Obligations.OvWriteWritesElement :=
  ⟨fun _ => decodeCommand_of_code, fun _ w _ => ⟨fun h => execOvWrite_of_lt w h, fun h => if_neg (Nat.not_lt.mpr h)⟩⟩

/-- Settles O32: the element exists exactly inside the vector. -/
theorem ovReadReturnsElement : Obligations.OvReadReturnsElement := by
  refine ⟨fun _ => decodeCommand_of_code, fun i s => ⟨fun h => ?_, fun h => ?_⟩⟩
  · exact execOvRead_of_element (elementAt_of_lt h)
  · rw [exec, execOvRead, elementAt_of_le h]

end Sys2Proof.Machine

/-! ## Statements of 60_exceptions.md: no step faults, and only a host operation without meaning is refused -/

namespace Sys2Proof.Machine

/-- The outcome goes on: neither a fault nor a refusal. -/
def Completes (o : Out) : Prop := ∃ t, o = .next t

theorem completes_next (s : State) : Completes (.next s) := ⟨s, rfl⟩

theorem State.Inv.iv_ne_nil {s : State} (h : s.Inv) : s.iv ≠ [] := by
  obtain ⟨hsound, -⟩ := (inv_iff s).mp h
  exact List.ne_nil_of_length_pos (Nat.zero_lt_of_lt hsound.fill_lt)

theorem scanOk_of_templateOk {n : Nat} {str : List Byte} (h : templateOk n str = true) : scanOk str = true := by
  simp only [templateOk, Bool.and_eq_true] at h
  exact h.2

/-! ### The template scan from any index (R100, R160) -/

/-- A tag character is not the marker, so a scan that begins inside a tag meets only the tags behind it. -/
theorem scanOk_of_cons {c : Byte} {q : List Byte} (h : scanOk (c :: q) = true) : scanOk q = true := by
  by_cases hc : c = escMarker
  · subst hc
    cases q with
    | nil => rfl
    | cons t q =>
      rw [scanOk_tag, Bool.and_eq_true] at h
      obtain ⟨ht, hq⟩ := h
      have hne : t ≠ escMarker := by
        rintro rfl
        exact absurd ht (by decide)
      rwa [scanOk_of_ne_escMarker hne]
  · rwa [scanOk_of_ne_escMarker hc] at h

theorem scanOk_drop (n : Nat) {q : List Byte} (h : scanOk q = true) : scanOk (q.drop n) = true := by
  induction n generalizing q with
  | zero => exact h
  | succ n ih =>
    cases q with
    | nil => rfl
    | cons c q => exact ih (scanOk_of_cons h)

theorem decodeTemplate_ne_tRsvd {q : List Byte} (h : scanOk q = true) (fix : Bool) (t : Byte) :
    (decodeTemplate fix q).1 ≠ .tRsvd t := by
  cases q with
  | nil => exact nofun
  | cons c q => exact ((scanOk_cons_iff fix c q).mp h).1 t

/-- T.RSVD is the only template unit that does not complete (R151, R160). -/
theorem exec_templateUnit_completes {i : Instr} (hi : isTemplateUnit i = true) (hr : ∀ t, i ≠ .tRsvd t)
    (s : State) : Completes (exec i s) := by
  cases i with
  | tLit | tL | tU | tD | tI | tTrunc | tEol => exact completes_next _
  | tRsvd t => exact absurd rfl (hr t)
  | ul =>
    cases h : s.cfg.tagUlFix with
    | true => exact ⟨_, if_pos h⟩
    | false => exact ⟨_, exec_ul_withoutFix h⟩
  | _ => cases hi

/-- RESET completes with a configuration that R250 admits. -/
theorem execReset_completes {tpl : List Byte} {interval : Nat} (en : Option Bool) {s : State} (hn : s.iv ≠ [])
    (hinterval : interval < 2 ^ s.cfg.clkW) (htpl : templateOk s.cfg.tplMax tpl = true) :
    Completes (exec (.reset tpl interval en) s) := by
  have hadmitted : ¬(s.nIn = 0 ∨ 2 ^ s.cfg.clkW ≤ interval) := by
    rw [not_or, Nat.not_le]
    exact ⟨mt List.eq_nil_of_length_eq_zero hn, hinterval⟩
  exact ⟨_, (if_neg hadmitted).trans (if_pos htpl)⟩

/-! ### What completes from the invariants -/

section
variable {s : State} (h : s.Inv)
include h

/-- POLL taken whole (R191). -/
theorem exec_poll_completes : Completes (exec .poll s) := by
  obtain ⟨hsound, -⟩ := (inv_iff s).mp h
  obtain ⟨-, hpoll⟩ := pollReceivesThenSendsWhenDue
  obtain ⟨hoff, hon⟩ := hpoll s hsound.fill_lt (scanOk_of_templateOk hsound.tpl_ok)
  cases he : s.enabled with
  | false => exact ⟨_, hoff he⟩
  | true =>
    obtain ⟨_, t, -, ht, -⟩ := hon he
    exact ⟨t, ht⟩

/-- The reset input repeats the parameters of construction, which R6 constrains (R250, D2). -/
theorem exec_resetInstr_completes : Completes (exec (resetInstr s.cfg) s) := by
  obtain ⟨hsound, -⟩ := (inv_iff s).mp h
  obtain ⟨-, -, hinterval, -, htpl, -⟩ := (params_ok_iff s.cfg).mp hsound.cfg_ok
  exact execReset_completes s.cfg.enReset h.iv_ne_nil hinterval htpl

theorem wordRead_completes (hq : 0 < s.rxq.length) : Completes (wordRead s) := by
  obtain ⟨x, q, hxq⟩ := List.exists_cons_of_length_pos hq
  exact ⟨_, wordRead_of_available hxq h.iv_ne_nil⟩

/-- Each unit that the block fetches, and each read inside RX.WORD, finds the bytes and characters it needs. -/
theorem blockMove_completes : Completes s.blockMove.outcome := by
  obtain ⟨hsound, hplaced⟩ := (inv_iff s).mp h
  have hread (hpos : 0 < readsLeft s.ctl) : Completes (wordRead s) :=
    wordRead_completes h (hpos.trans_le hplaced.readsLeft_le)
  unfold State.blockMove
  cases hc : s.ctl with
  | idle | gate | sendEnd | latch => exact completes_next _
  | receive =>
    cases hd : decodeWire s.rstate s.rxq with
    | ok r =>
      obtain ⟨t, ht, -⟩ := exec_fetchedWireUnit h.iv_ne_nil hd
      exact ⟨t, ht⟩
    | error e => exact completes_next _
  | wordRead1 | wordRead2 | wordRead3 => exact hread (by rw [hc]; decide)
  | send =>
    have hscan : scanOk (s.tpl.drop s.ti) = true := scanOk_drop s.ti (scanOk_of_templateOk hsound.tpl_ok)
    exact exec_templateUnit_completes (decodeTemplate_isTemplateUnit _ _) (decodeTemplate_ne_tRsvd hscan _) s

theorem readMove_completes : Completes s.readMove.outcome := by
  unfold State.readMove
  split
  next hword =>
    obtain ⟨-, -, hlen⟩ := hword
    exact wordRead_completes h (Nat.zero_lt_of_lt hlen)
  next => exact blockMove_completes h

end

/-! ### What a command can answer -/

/-- A command other than POLL completes, or is refused whatever moves are pending (R193 to R198, R103). -/
theorem exec_command_cases (c : Command) (s : State) :
    decodeCommand c = .poll ∨ Completes (exec (decodeCommand c) s)
      ∨ ∃ r, ∀ l, exec (decodeCommand c) (s.setInputs l) = .refused r := by
  obtain ⟨-, hsetTemplate⟩ := setTemplateReplacesWholeStore
  obtain ⟨-, hivRead⟩ := ivReadReturnsElement
  obtain ⟨-, hovWrite⟩ := ovWriteWritesElement
  obtain ⟨-, hovRead⟩ := ovReadReturnsElement
  unfold decodeCommand
  split
  case h_1 => exact .inl rfl
  case h_2 | h_3 => exact .inr (.inl (completes_next _))
  case h_4 =>
    cases hok : templateOk s.cfg.tplMax c.str with
    | true => exact .inr (.inl ⟨_, (hsetTemplate c.str s).1 hok⟩)
    | false => exact .inr (.inr ⟨_, fun l => (hsetTemplate c.str (s.setInputs l)).2 hok⟩)
  case h_5 =>
    exact .inr ((Nat.lt_or_ge c.idx s.iv.length).imp (fun hlt => ⟨_, (hivRead c.idx s).1 hlt⟩) fun hge =>
      ⟨_, fun l => (hivRead c.idx (s.setInputs l)).2 hge⟩)
  case h_6 =>
    exact .inr ((Nat.lt_or_ge c.idx s.ov.length).imp (fun hlt => ⟨_, (hovWrite c.idx c.w s).1 hlt⟩) fun hge =>
      ⟨_, fun l => (hovWrite c.idx c.w (s.setInputs l)).2 hge⟩)
  case h_7 =>
    exact .inr ((Nat.lt_or_ge c.idx s.ov.length).imp (fun hlt => ⟨_, (hovRead c.idx s).1 hlt⟩) fun hge =>
      ⟨_, fun l => (hovRead c.idx (s.setInputs l)).2 hge⟩)
  case h_8 => exact .inr (.inr ⟨_, fun _ => rfl⟩)

/-! ### What a step can answer -/

/-- The step takes a pending command other than POLL, and the answer is that command's refusal. -/
def RefusesCommand (s : State) : Prop :=
  s.ctl = .idle ∧ ∃ c rest r, s.inputs = .command c :: rest ∧ step s = .refused r
    ∧ exec (decodeCommand c) s = .refused r ∧ decodeCommand c ≠ .poll

theorem step_command_cases {s : State} (h : s.Inv) (hc : s.ctl = .idle) {c : Command} {rest : List Input}
    (hs : s.inputs = .command c :: rest) : Completes (step s) ∨ RefusesCommand s := by
  have hrest : (s.setInputs rest).Inv := h
  have hstep := step_of_command hs hc
  by_cases hpoll : decodeCommand c = .poll
  · rw [hpoll] at hstep
    rw [hstep]
    exact .inl (exec_poll_completes hrest)
  · obtain e | hdone | ⟨r, hr⟩ := exec_command_cases c (s.setInputs rest)
    · exact absurd e hpoll
    · rw [hstep]
      exact .inl hdone
    · exact .inr ⟨hc, c, rest, r, hs, hstep.trans (hr rest), hr s.inputs, hpoll⟩

/-- From the invariants a step completes, but for a command that is refused (R220, R222). -/
theorem step_completes_or_refusesCommand {s : State} (h : s.Inv) : Completes (step s) ∨ RefusesCommand s := by
  cases hs : s.inputs with
  | nil =>
    rw [step_of_quiet hs]
    exact .inl (blockMove_completes h)
  | cons m rest =>
    have hrest : (s.setInputs rest).Inv := h
    have hwaiting (hm : (∃ c, m = .command c) ∨ m = .pollByUnits ∨ m = .resetInput) (hc : s.ctl ≠ .idle) :
        Completes (step s) := by
      rw [step_of_waiting hs hm hc]
      exact blockMove_completes h
    cases m with
    | append b => exact .inl ⟨_, step_of_append hs⟩
    | advance ms => exact .inl ⟨_, step_of_advance hs⟩
    | run =>
      rw [step_of_run hs]
      exact .inl (blockMove_completes hrest)
    | read =>
      rw [step_of_read hs]
      exact .inl (readMove_completes hrest)
    | command c =>
      by_cases hc : s.ctl = .idle
      · exact step_command_cases h hc hs
      · exact .inl (hwaiting (.inl ⟨c, rfl⟩) hc)
    | pollByUnits =>
      by_cases hc : s.ctl = .idle
      · exact .inl ⟨_, step_of_pollByUnits hs hc⟩
      · exact .inl (hwaiting (.inr (.inl rfl)) hc)
    | resetInput =>
      by_cases hc : s.ctl = .idle
      · rw [step_of_resetInput hs hc]
        exact .inl (exec_resetInstr_completes hrest)
      · exact .inl (hwaiting (.inr (.inr rfl)) hc)

/-- Settles O40: what the block does on its own completes, and only a pending command can be refused. -/
theorem onlyHostOperationsAreRefused : Obligations.OnlyHostOperationsAreRefused := by
  intro s h
  obtain ⟨t, ht⟩ | ⟨hc, c, rest, r, hs, hstep, hexec, hpoll⟩ := step_completes_or_refusesCommand h
  · exact ⟨by simp [ht], by simp [ht]⟩
  · refine ⟨by simp [hstep], fun r' hr' => ?_⟩
    cases hstep.symm.trans hr'
    exact ⟨hc, c, rest, hs, hexec, hpoll⟩

end Sys2Proof.Machine

/-! ## Statements of 70_reset_and_hazards.md: what RESET writes, refuses and ends -/

namespace Sys2Proof.Machine

/-! ### What RESET refuses (R250) -/

theorem nIn_eq_zero_iff (s : State) : s.nIn = 0 ↔ s.iv = [] := List.length_eq_zero_iff

theorem execReset_refuses_configuration (tpl : List Byte) {interval : Nat} (en : Option Bool) {s : State}
    (h : s.iv = [] ∨ 2 ^ s.cfg.clkW ≤ interval) : execReset tpl interval en s = .refused .configuration :=
  if_pos (h.imp_left (nIn_eq_zero_iff s).mpr)

theorem execReset_refuses_template {tpl : List Byte} {interval : Nat} (en : Option Bool) {s : State}
    (hn : s.iv ≠ []) (hinterval : interval < 2 ^ s.cfg.clkW) (htpl : templateOk s.cfg.tplMax tpl = false) :
    execReset tpl interval en s = .refused .templateNotWellFormed := by
  have hadmitted : ¬(s.nIn = 0 ∨ 2 ^ s.cfg.clkW ≤ interval) := by
    rw [nIn_eq_zero_iff, not_or, Nat.not_le]
    exact ⟨hn, hinterval⟩
  exact (if_neg hadmitted).trans (if_neg (Bool.eq_false_iff.mp htpl))

/-! ### What RESET writes (R250, R252) -/

/-- Settles O35: an admitted RESET completes, and what it then answers is fixed; the two refusals are the two checks
before it. -/
theorem resetInitialisesBlockState : Obligations.ResetInitialisesBlockState := by
  refine fun tpl interval en s => ⟨fun hn hinterval htpl => ?_, execReset_refuses_configuration tpl en,
    execReset_refuses_template en⟩
  obtain ⟨t, ht⟩ := execReset_completes en hn hinterval htpl
  obtain ⟨-, -, rfl⟩ := execReset_eq_next ht
  refine ⟨_, ht, ?_⟩
  cases en with
  | none => rfl
  | some b => rfl

/-- Settles O36: the one state that RESET can answer is idle and keeps the other two fields of the model's own. -/
theorem resetEndsTheOperationInProgress : Obligations.ResetEndsTheOperationInProgress := by
  intro tpl interval en s t h
  obtain ⟨-, -, rfl⟩ := execReset_eq_next h
  exact ⟨rfl, rfl, rfl⟩

end Sys2Proof.Machine

/-! ## The optional parameter TAG_UL_FIX (92_eei_decisions D12, 93_implementation_defined U14) -/

namespace Sys2Proof.Machine

/-- With TAG_UL_FIX `%ul` renders by the conversion of `%u`, having passed its three characters (D12). -/
theorem exec_ul_withFix {s : State} (h : s.cfg.tagUlFix = true) :
    exec .ul s = .next ((s.tiAdvance 3).render convU) := if_pos h

/-- Settles O18: `%ul` with and without an element at CUR. -/
theorem ulWithFixIsOneUnit : Obligations.UlWithFixIsOneUnit := by
  refine ⟨fun _ => rfl, fun s hfix => ?_⟩
  rw [exec_ul_withFix hfix]
  cases hw : s.ov[s.cur]? with
  | some w =>
    obtain ⟨hlt, -⟩ := List.getElem?_eq_some_iff.mp hw
    rw [render_of_element (s := s.tiAdvance 3) _ hw, if_pos hlt]
    rfl
  | none =>
    have hle := List.getElem?_eq_none_iff.mp hw
    rw [render_of_exhausted (s := s.tiAdvance 3) _ hle, if_neg (Nat.not_lt.mpr hle)]
    rfl

end Sys2Proof.Machine
